-- ==== Sys2Proof/Word.lean ====
section
/-! DEFINITION. The widths of the SHTCX-DP block's values (00_scope.md R14: u8, u16, u32). -/

namespace Sys2Proof

/-- A byte (u8): one response byte, one CRC register. -/
abbrev Byte := BitVec 8

/-- A 16-bit value (u16): a data word, a sensor opcode, STATUS. -/
abbrev Half := BitVec 16

/-- A 32-bit value (u32, or s32 where the spec says two's complement): a request word, a result register. -/
abbrev Word := BitVec 32

end Sys2Proof
end

