-- ==== Sys2Proof/Syntax.lean ====
section
/-! DEFINITION. The requests of the block: one constructor of `Instr` per row of spec/opcode_table.json
(30_encoding.md R83), and the names its operands stand for (R86, 00_scope.md R17). -/

namespace Sys2Proof

/-- `PowerMode` (00_scope.md R17), the MODE field of PROF_DUR (10_state.md R36). -/
inductive PowerMode where
  | normal
  | lowPower
deriving DecidableEq, Repr

/-- The order of a Measure's two quantities (30_encoding.md R86), the ORD field of MEAS_TH (43_converter.md R182). -/
inductive Order where
  | temperatureFirst
  | humidityFirst
deriving DecidableEq, Repr

/-- `Command`: a logical sensor operation (00_scope.md R17). -/
inductive Command where
  | sleep
  | wakeUp
  | softwareReset
  | readIdRegister
  | measure (mode : PowerMode) (order : Order) (clockStretching : Bool)
deriving DecidableEq, Repr

/-- The 20 requests (30_encoding.md R83). An operand is its field's value (R82); REG, SEL and PSEL keep their raw width
because some of their values are reserved (R85), see `wellFormed`. -/
inductive Instr where
  /-- NOP (45_system.md R215). -/
  | nop
  /-- RST (45_system.md R216). -/
  | rst
  /-- REG_RD REG (45_system.md R217). -/
  | regRd (reg : BitVec 4)
  /-- ENC SEL (40_encoder.md R113). -/
  | enc (sel : BitVec 4)
  /-- ENC_CHK SEL (40_encoder.md R114). -/
  | encChk (sel : BitVec 4)
  /-- CRC_INIT (41_crc.md R132). -/
  | crcInit
  /-- CRC_BYTE B (41_crc.md R133). -/
  | crcByte (b : Byte)
  /-- CRC_WORD W (41_crc.md R134). -/
  | crcWord (w : Half)
  /-- VAL_START (42_validator.md R152). -/
  | valStart
  /-- VAL_BYTE B (42_validator.md R153). -/
  | valByte (b : Byte)
  /-- VAL_CHECK (42_validator.md R154). -/
  | valCheck
  /-- CONV_T RAW (43_converter.md R174). -/
  | convT (raw : Half)
  /-- CONV_H RAW (43_converter.md R175). -/
  | convH (raw : Half)
  /-- CONV_ID RAW (43_converter.md R176). -/
  | convId (raw : Half)
  /-- MEAS_T (43_converter.md R179). -/
  | measT
  /-- MEAS_H (43_converter.md R180). -/
  | measH
  /-- MEAS_ID (43_converter.md R181). -/
  | measId
  /-- MEAS_TH ORD (43_converter.md R182). -/
  | measTh (ord : Order)
  /-- PROF_SET PSEL (44_profile.md R200). -/
  | profSet (psel : BitVec 2)
  /-- PROF_DUR MODE (44_profile.md R201). -/
  | profDur (mode : PowerMode)
deriving DecidableEq, Repr

/-- Why a word names no request (30_encoding.md R88). -/
inductive DecodeError where
  /-- RSV is not zero, or OP is reserved (R84). -/
  | illegalOp
  /-- A must-be-zero bit of the format is 1 (R85). -/
  | illegalArg
deriving DecidableEq, Repr

end Sys2Proof
end

