-- ==== Sys2Proof/Decode.lean ====
section
/-! DEFINITION. The request word (30_encoding.md R81 to R85, R88): its fields, the request opcode map, the argument
formats, the decoder (total on every word, rejecting by name) and the encoder. -/

namespace Sys2Proof

/-- The 20 assigned request opcodes, by mnemonic (30_encoding.md R83). -/
inductive Opcode where
  | nop | rst | regRd
  | enc | encChk
  | crcInit | crcByte | crcWord
  | valStart | valByte | valCheck
  | convT | convH | convId
  | measT | measH | measId | measTh
  | profSet | profDur
deriving DecidableEq, Repr

/-- The argument formats (30_encoding.md R82). -/
inductive Format where
  | z | r4 | s4 | b8 | w16 | o1 | p2 | m1
deriving DecidableEq, Repr

/-! ### Fields of the word (R81) -/

/-- OP, bits [31:24]. -/
def opField (w : Word) : Byte := w.extractLsb' 24 8

/-- RSV, bits [23:16]. -/
def rsvField (w : Word) : Byte := w.extractLsb' 16 8

/-- ARG, bits [15:0]. -/
def argField (w : Word) : Half := w.extractLsb' 0 16

/-! ### The request opcode map (R83, R84) -/

/-- The value of OP for each mnemonic (30_encoding.md R83). -/
def opBits : Opcode → Byte
  | .nop => 0x00#8
  | .rst => 0x01#8
  | .regRd => 0x02#8
  | .enc => 0x10#8
  | .encChk => 0x11#8
  | .crcInit => 0x20#8
  | .crcByte => 0x21#8
  | .crcWord => 0x22#8
  | .valStart => 0x30#8
  | .valByte => 0x31#8
  | .valCheck => 0x32#8
  | .convT => 0x40#8
  | .convH => 0x41#8
  | .convId => 0x42#8
  | .measT => 0x48#8
  | .measH => 0x49#8
  | .measId => 0x4A#8
  | .measTh => 0x4B#8
  | .profSet => 0x50#8
  | .profDur => 0x51#8

/-- Every assigned request opcode, in the table's order (30_encoding.md R83). -/
def allOpcodes : List Opcode :=
  [.nop, .rst, .regRd] ++ [.enc, .encChk] ++ [.crcInit, .crcByte, .crcWord]
    ++ [.valStart, .valByte, .valCheck] ++ [.convT, .convH, .convId]
    ++ [.measT, .measH, .measId, .measTh] ++ [.profSet, .profDur]

/-- The request an OP value names, or none where it is reserved (30_encoding.md R83, R84). -/
def opcodeOf (op : Byte) : Option Opcode := allOpcodes.find? (fun o => opBits o == op)

/-! ### Argument formats (R82) -/

/-- The format of each request (30_encoding.md R82, R83). -/
def formatOf : Opcode → Format
  | .nop => .z
  | .rst => .z
  | .regRd => .r4
  | .enc => .s4
  | .encChk => .s4
  | .crcInit => .z
  | .crcByte => .b8
  | .crcWord => .w16
  | .valStart => .z
  | .valByte => .b8
  | .valCheck => .z
  | .convT => .w16
  | .convH => .w16
  | .convId => .w16
  | .measT => .z
  | .measH => .z
  | .measId => .z
  | .measTh => .o1
  | .profSet => .p2
  | .profDur => .m1

/-- The ARG bits that must be zero in a format (30_encoding.md R82). -/
def mustBeZero : Format → Half
  | .z => 0xFFFF#16
  | .r4 => 0xFFF0#16
  | .s4 => 0xFFF0#16
  | .b8 => 0xFF00#16
  | .w16 => 0x0000#16
  | .o1 => 0xFFFE#16
  | .p2 => 0xFFFC#16
  | .m1 => 0xFFFE#16

/-- ORD = ARG[0]: 0 TemperatureFirst, 1 HumidityFirst (30_encoding.md R86, R89). -/
def orderOfBit (b : BitVec 1) : Order := if b = 1#1 then .humidityFirst else .temperatureFirst

/-- MODE = ARG[0]: 0 NormalMode, 1 LowPower (30_encoding.md R89, 44_profile.md R201). -/
def modeOfBit (b : BitVec 1) : PowerMode := if b = 1#1 then .lowPower else .normal

/-- The bit that stands for an order (30_encoding.md R86, R89). -/
def orderBit : Order → BitVec 1
  | .temperatureFirst => 0#1
  | .humidityFirst => 1#1

/-- The bit that stands for a mode (30_encoding.md R89). -/
def modeBit : PowerMode → BitVec 1
  | .normal => 0#1
  | .lowPower => 1#1

/-- The request an opcode and its argument name, the operand taken directly from its bits (30_encoding.md R82). -/
def requestOf (o : Opcode) (arg : Half) : Instr :=
  match o with
  | .nop => .nop
  | .rst => .rst
  | .regRd => .regRd (arg.extractLsb' 0 4)
  | .enc => .enc (arg.extractLsb' 0 4)
  | .encChk => .encChk (arg.extractLsb' 0 4)
  | .crcInit => .crcInit
  | .crcByte => .crcByte (arg.extractLsb' 0 8)
  | .crcWord => .crcWord arg
  | .valStart => .valStart
  | .valByte => .valByte (arg.extractLsb' 0 8)
  | .valCheck => .valCheck
  | .convT => .convT arg
  | .convH => .convH arg
  | .convId => .convId arg
  | .measT => .measT
  | .measH => .measH
  | .measId => .measId
  | .measTh => .measTh (orderOfBit (arg.extractLsb' 0 1))
  | .profSet => .profSet (arg.extractLsb' 0 2)
  | .profDur => .profDur (modeOfBit (arg.extractLsb' 0 1))

/-! ### The decoder (R88) -/

/-- Decoding, total on every 32-bit word, in the order of 30_encoding.md R88: a nonzero RSV or a reserved OP is
ILLEGAL_OP, then a must-be-zero bit that is 1 is ILLEGAL_ARG, else the word is the request of its row of
spec/opcode_table.json. The rest of step 3, a field that holds a reserved value, is tested by the request itself, as the
pseudocode of REG_RD, ENC, ENC_CHK and PROF_SET says (log 6). -/
def decode (w : Word) : Except DecodeError Instr :=
  if rsvField w ≠ 0#8 then .error .illegalOp
  else
    match opcodeOf (opField w) with
    | none => .error .illegalOp
    | some o =>
      if argField w &&& mustBeZero (formatOf o) ≠ 0#16 then .error .illegalArg
      else .ok (requestOf o (argField w))

/-! ### The encoder (R81, R82, R89) -/

/-- The opcode of a request (30_encoding.md R83). -/
def opcodeOfInstr : Instr → Opcode
  | .nop => .nop
  | .rst => .rst
  | .regRd _ => .regRd
  | .enc _ => .enc
  | .encChk _ => .encChk
  | .crcInit => .crcInit
  | .crcByte _ => .crcByte
  | .crcWord _ => .crcWord
  | .valStart => .valStart
  | .valByte _ => .valByte
  | .valCheck => .valCheck
  | .convT _ => .convT
  | .convH _ => .convH
  | .convId _ => .convId
  | .measT => .measT
  | .measH => .measH
  | .measId => .measId
  | .measTh _ => .measTh
  | .profSet _ => .profSet
  | .profDur _ => .profDur

/-- ARG of a request: its operand in the low bits, zeros above (30_encoding.md R82). -/
def argBits : Instr → Half
  | .regRd reg => reg.setWidth 16
  | .enc sel => sel.setWidth 16
  | .encChk sel => sel.setWidth 16
  | .crcByte b => b.setWidth 16
  | .crcWord w => w
  | .valByte b => b.setWidth 16
  | .convT raw => raw
  | .convH raw => raw
  | .convId raw => raw
  | .measTh ord => (orderBit ord).setWidth 16
  | .profSet psel => psel.setWidth 16
  | .profDur mode => (modeBit mode).setWidth 16
  | .nop => 0#16
  | .rst => 0#16
  | .crcInit => 0#16
  | .valStart => 0#16
  | .valCheck => 0#16
  | .measT => 0#16
  | .measH => 0#16
  | .measId => 0#16

/-- The word of a request: `OP << 24 | field value` (30_encoding.md R89), which is `OP : 0x00 : ARG`. -/
def encode (i : Instr) : Word := opBits (opcodeOfInstr i) ++ 0#8 ++ argBits i

/-- The host's view of the decoder: the instruction `decode` reads from an instruction of `nbits` bits `w`, every bit
above them zero. A request is one 32-bit word, so there is no second word and no byte order to choose (30_encoding.md
R81); what does not fit in 32 bits is no request (log 9). -/
def decodeTableWord (nbits w : Nat) : Option Instr :=
  if w % 2 ^ nbits < 2 ^ 32 then
    match decode (BitVec.ofNat 32 (w % 2 ^ nbits)) with
    | .ok i => some i
    | .error _ => none
  else none

end Sys2Proof
end

