-- ==== Sys2Proof/Config.lean ====
section
/-! DEFINITION. What an implementation of the block fixes at build time (00_scope.md R6 to R11), the host's own parameter
(R12), and the one value the spec leaves without a meaning (the profile row of the reserved PROF_SEL value, 10_state.md
R33). -/

namespace Sys2Proof

/-- The build-time parameters of the block (00_scope.md R6 to R10). Plain data: State carries one value of it, which no
request writes (20_memory.md R69). Log 2. -/
structure Config.Params where
  /-- `P_DUR_G1_NORMAL`, microseconds (R6). -/
  durG1Normal : Half
  /-- `P_DUR_G1_LP`, microseconds (R7). -/
  durG1Lp : Half
  /-- `P_DUR_G2_NORMAL`, microseconds (R8). -/
  durG2Normal : Half
  /-- `P_DUR_G2_LP`, microseconds (R9). -/
  durG2Lp : Half
  /-- `P_CAP_G1`, the first-generation family's sleep capability (R10). -/
  capG1 : Bool
  /-- `P_CAP_G2`, the second-generation family's sleep capability (R10). -/
  capG2 : Bool
deriving DecidableEq, Repr

/-- The spec's default parameters (00_scope.md R6 to R10), which it marks as general knowledge: PRESUMED, unsafe for a claim that rests on them (log 2); statements quantify over `Config.Params`. -/
def Config.defaultParams : Config.Params where
  durG1Normal := 14400#16
  durG1Lp := 940#16
  durG2Normal := 12100#16
  durG2Lp := 800#16
  capG1 := false
  capG2 := true

/-- The default of `P_DEV_ADDR`, the bus address the HOST uses (00_scope.md R12). The block does not hold it (10_state.md
R39, 92_eei_decisions.md D35): it is a field of the environment, `Env`. -/
def Config.defaultDevAddr : Byte := 0x70#8

/-- One row of the profile constants: DUR_NORMAL, DUR_LP, SLEEP_CAP (10_state.md R34). -/
structure Config.ProfileRow where
  durNormal : Half
  durLp : Half
  sleepCap : Bool
deriving DecidableEq, Repr, Inhabited

/-- FREE VALUE (log 3): the row that PROF_SEL = 3 would select. The value 3 is reserved and no request can write it
(10_state.md R33), so the spec gives no row; nothing can be proved of this one. -/
opaque Config.reservedProfileRow : Config.ProfileRow

end Sys2Proof
end

