-- ==== Sys2Proof/Machine/State.lean ====
section
/-! DEFINITION. The state of the block (10_state.md R20 to R33), its reset (70_reset_and_hazards.md R260), its error
codes (60_exceptions.md R230), and the two types of a step that stops. -/

namespace Sys2Proof.Machine

/-- Why a step could stop with a fault. IT HAS NO CONSTRUCTOR: no step of the block stops. Every error is a code in
STATUS.ERR and the next request is taken normally (60_exceptions.md R232; log 7). Nobody raises a fault. -/
inductive Fault where
deriving DecidableEq, Repr

/-- Why a step could be refused. Every request of the table has its meaning, so no step answers with one. -/
inductive Refusal where
  /-- Raised by an arm of `exec` whose instruction has no meaning yet; no arm is one. Safe: the model would stop. -/
  | notModelled (mnemonic : String)
deriving DecidableEq, Repr

/-- The outcome codes of STATUS.ERR (60_exceptions.md R230). -/
inductive ErrCode where
  | ok
  | checksum
  | unsupported
  | illegalOp
  | illegalArg
  | noData
deriving DecidableEq, Repr

/-- The state of the machine: the registers of 10_state.md R20, and two fields that are the model's own (`params`,
`requests`). Plain data. -/
structure State where
  /-- STATUS (R22): ERR [3:0], CHKERR [4], VPOS [6:5], reserved [15:7]; its fields are read and written in Flags.lean. -/
  status : Half
  /-- CRC (R26): the stand-alone CRC unit's running register. -/
  crc : Byte
  /-- VCRC (R27): the validator's running CRC. -/
  vcrc : Byte
  /-- VHOLD (R28): the data bytes of the current group, the first in [15:8]. -/
  vhold : Half
  /-- VGROUPS (R29): the complete groups of the current stream, saturating. -/
  vgroups : Half
  /-- FAILGRP (R30): the index of the first group that failed, 0xFFFF while none has. -/
  failgrp : Half
  /-- W0 (R31): the data word of group 0. -/
  w0 : Half
  /-- W1 (R31): the data word of group 1. -/
  w1 : Half
  /-- RES0 (R32): the first result register. -/
  res0 : Word
  /-- RES1 (R32): the second result register. -/
  res1 : Word
  /-- PROF_SEL (R33): the active profile. -/
  profSel : BitVec 2
  /-- MODEL: the build-time parameters (00_scope.md R6 to R10), which no request writes. Log 2. -/
  params : Config.Params
  /-- MODEL: the request port (30_encoding.md R80): the words the host has still to present, the next one first (70
  R273). Log 1. -/
  requests : List Word
deriving DecidableEq, Repr

/-- The block right after reset (70_reset_and_hazards.md R260), built with the parameters `p` (00_scope.md R6: "A model
takes this as an argument"), with no request presented. -/
def State.resetWith (p : Config.Params) : State where
  status := 0x0000#16
  crc := 0xFF#8
  vcrc := 0xFF#8
  vhold := 0x0000#16
  vgroups := 0x0000#16
  failgrp := 0xFFFF#16
  w0 := 0x0000#16
  w1 := 0x0000#16
  res0 := 0x00000000#32
  res1 := 0x00000000#32
  profSel := 2#2
  params := p
  requests := []

/-- The block right after reset, with the spec's default parameters. -/
def State.reset : State := State.resetWith Config.defaultParams

end Sys2Proof.Machine
end

