-- ==== Sys2Proof/Machine/Flags.lean ====
section
/-! DEFINITION. STATUS and its fields (10_state.md R22 to R25) and the numbers of the error codes (60_exceptions.md R230). -/

namespace Sys2Proof.Machine

/-- The 4-bit number of an outcome code (60_exceptions.md R230). -/
def errBits : ErrCode → BitVec 4
  | .ok => 0#4
  | .checksum => 1#4
  | .unsupported => 2#4
  | .illegalOp => 3#4
  | .illegalArg => 4#4
  | .noData => 5#4

/-- STATUS.ERR, bits [3:0] (10_state.md R22, R23). -/
def errField (status : Half) : BitVec 4 := status.extractLsb' 0 4

/-- STATUS.CHKERR, bit [4] (10_state.md R22, R24). -/
def chkerrFlag (status : Half) : Bool := status.getLsbD 4

/-- STATUS.VPOS, bits [6:5] (10_state.md R22, R25). -/
def vposField (status : Half) : BitVec 2 := status.extractLsb' 5 2

/-- The reserved bits [15:7] of STATUS (10_state.md R22). -/
def reservedField (status : Half) : BitVec 9 := status.extractLsb' 7 9

/-- STATUS with ERR replaced, every other bit kept. -/
def setErr (status : Half) (e : BitVec 4) : Half := status.extractLsb' 4 12 ++ e

/-- STATUS with CHKERR replaced, every other bit kept. -/
def setChkerr (status : Half) (b : Bool) : Half :=
  status.extractLsb' 5 11 ++ BitVec.ofBool b ++ status.extractLsb' 0 4

/-- STATUS with VPOS replaced, every other bit kept. -/
def setVpos (status : Half) (v : BitVec 2) : Half :=
  status.extractLsb' 7 9 ++ v ++ status.extractLsb' 0 5

/-- STATUS as a host reads it: bits [15:7] read as zero whatever they hold (10_state.md R22; log 5). -/
def statusRead (status : Half) : Half := 0#9 ++ status.extractLsb' 0 7

end Sys2Proof.Machine
end

