-- ==== Sys2Proof/Machine/Ops.lean ====
section
/-! DEFINITION. The operations every request ends in (00_scope.md R15: `ok`, `raise`), the request port, and the
response. TAKING AN ERROR is `raiseError`; the block has no saved state, vector, mode or handler, and so no return from
one (60_exceptions.md R232). -/

namespace Sys2Proof.Machine

/-- `ok` (00_scope.md R15): the request ends successfully, STATUS.ERR <- 0. -/
def finishOk (s : State) : State := { s with status := setErr s.status (errBits .ok) }

/-- `raise E` (00_scope.md R15, 60_exceptions.md R232): STATUS.ERR <- E, and nothing else changes. -/
def raiseError (e : ErrCode) (s : State) : State := { s with status := setErr s.status (errBits e) }

/-- A request with one result ends: RES0 <- v, ok (10_state.md R32). -/
def finishRes0 (v : Word) (s : State) : State := { finishOk s with res0 := v }

/-- A request with two results ends: RES0 <- v and RES1 <- u together, ok (10_state.md R32). -/
def finishRes01 (v u : Word) (s : State) : State := { finishOk s with res0 := v, res1 := u }

/-- Every register to its reset value (45_system.md R216, 70_reset_and_hazards.md R260). The constants and the host's
own list of requests are no registers and stay (log 10). -/
def blockReset (s : State) : State :=
  { State.resetWith s.params with requests := s.requests }

/-- The error code a word that names no request raises (30_encoding.md R88). -/
def decodeErrCode : DecodeError → ErrCode
  | .illegalOp => .illegalOp
  | .illegalArg => .illegalArg

/-- Fetch at the request port: the next request word, and the state with it taken; none while the host presents none
(30_encoding.md R80). -/
def takeRequest (s : State) : Option (Word × State) :=
  match s.requests with
  | [] => none
  | w :: rest => some (w, { s with requests := rest })

/-- The response the host reads after a request: (RES0, RES1, STATUS) (30_encoding.md R80). -/
def response (s : State) : Word × Word × Half := (s.res0, s.res1, statusRead s.status)

end Sys2Proof.Machine
end

