-- ==== Sys2Proof/Machine/Converter.lean ====
section
/-! DEFINITION. The conversion functions and the converter's requests (43_converter.md). -/

namespace Sys2Proof.Machine

/-! ### Conversion functions -/

/-- `conv_t` (43_converter.md R170): milli-degrees Celsius, 32-bit two's complement. -/
def convT (raw : Half) : Word := ((raw.setWidth 32 * 21875#32) >>> 13) - 45000#32

/-- `conv_h` (43_converter.md R171): milli-percent relative humidity. -/
def convH (raw : Half) : Word := (raw.setWidth 32 * 12500#32) >>> 13

/-- `dev_id` (43_converter.md R172): raw[11] : raw[5:0], 7 bits. -/
def devId (raw : Half) : BitVec 7 := raw.extractLsb' 11 1 ++ raw.extractLsb' 0 6

/-! ### Pure conversions -/

/-- CONV_T (43_converter.md R174). -/
def execConvT (raw : Half) (s : State) : Host.Outcome State Fault Refusal := .next (finishRes0 (convT raw) s)

/-- CONV_H (43_converter.md R175). -/
def execConvH (raw : Half) (s : State) : Host.Outcome State Fault Refusal := .next (finishRes0 (convH raw) s)

/-- CONV_ID (43_converter.md R176). -/
def execConvId (raw : Half) (s : State) : Host.Outcome State Fault Refusal :=
  .next (finishRes0 ((devId raw).setWidth 32) s)

/-! ### Validated measurements -/

/-- `meas_gate(n)` (43_converter.md R178): the error that stops a measurement of `n` groups, CHECKSUM before NO_DATA. -/
def measGate (n : Half) (s : State) : Option ErrCode :=
  if chkerrFlag s.status then some .checksum
  else if s.vgroups.ult n then some .noData
  else none

/-- A validated measurement: the gate for `n` groups, then the request's effect. -/
def gated (n : Half) (effect : State → State) (s : State) : Host.Outcome State Fault Refusal :=
  match measGate n s with
  | some e => .next (raiseError e s)
  | none => .next (effect s)

/-- MEAS_T (43_converter.md R179): RES0 <- conv_t(W0). -/
def execMeasT (s : State) : Host.Outcome State Fault Refusal :=
  gated 1#16 (finishRes0 (convT s.w0)) s

/-- MEAS_H (43_converter.md R180): RES0 <- conv_h(W0). -/
def execMeasH (s : State) : Host.Outcome State Fault Refusal :=
  gated 1#16 (finishRes0 (convH s.w0)) s

/-- MEAS_ID (43_converter.md R181): RES0 <- dev_id(W0). -/
def execMeasId (s : State) : Host.Outcome State Fault Refusal :=
  gated 1#16 (finishRes0 ((devId s.w0).setWidth 32)) s

/-- The captured word that is the temperature of a response in the given order (43_converter.md R182). -/
def temperatureWord (ord : Order) (s : State) : Half :=
  match ord with
  | .temperatureFirst => s.w0
  | .humidityFirst => s.w1

/-- The captured word that is the humidity of a response in the given order (43_converter.md R182). -/
def humidityWord (ord : Order) (s : State) : Half :=
  match ord with
  | .temperatureFirst => s.w1
  | .humidityFirst => s.w0

/-- MEAS_TH (43_converter.md R182): RES0 <- the temperature and RES1 <- the humidity, both or neither. -/
def execMeasTh (ord : Order) (s : State) : Host.Outcome State Fault Refusal :=
  gated 2#16 (finishRes01 (convT (temperatureWord ord s)) (convH (humidityWord ord s))) s

end Sys2Proof.Machine
end

