-- ==== Sys2Proof/WellFormed.lean ====
section
/-! DEFINITION. Which requests hold no reserved field value (30_encoding.md R85, R87; 10_state.md R33, R38). A request
that is not well formed still performs: it raises ILLEGAL_ARG (R85). -/

namespace Sys2Proof

/-- REG 0xE and 0xF are reserved (10_state.md R38). -/
def regReserved (reg : BitVec 4) : Bool := reg = 0xE#4 || reg = 0xF#4

/-- SEL 0x4 to 0x7 name no Command (30_encoding.md R87). -/
def selReserved (sel : BitVec 4) : Bool := sel = 0x4#4 || sel = 0x5#4 || sel = 0x6#4 || sel = 0x7#4

/-- PSEL 3 is reserved (10_state.md R33). -/
def pselReserved (psel : BitVec 2) : Bool := psel = 3#2

/-- No field of the request holds a reserved value (30_encoding.md R85). -/
def wellFormed : Instr → Bool
  | .regRd reg => !regReserved reg
  | .enc sel => !selReserved sel
  | .encChk sel => !selReserved sel
  | .profSet psel => !pselReserved psel
  | .nop => true
  | .rst => true
  | .crcInit => true
  | .crcByte _ => true
  | .crcWord _ => true
  | .valStart => true
  | .valByte _ => true
  | .valCheck => true
  | .convT _ => true
  | .convH _ => true
  | .convId _ => true
  | .measT => true
  | .measH => true
  | .measId => true
  | .measTh _ => true
  | .profDur _ => true

end Sys2Proof
end

