-- ==== Sys2Proof/Machine/Operands.lean ====
section
/-! DEFINITION. What the operand fields stand for: Commands and the opcode ROM (SEL), the profile constants (PSEL,
MODE), the register numbers (REG), and the byte order of a data word. -/

namespace Sys2Proof.Machine

/-! ### Byte order (20_memory.md R61) -/

/-- The byte of a 16-bit word the sensor sends first: bits [15:8]. -/
def firstByte (w : Half) : Byte := w.extractLsb' 8 8

/-- The byte of a 16-bit word the sensor sends second: bits [7:0]. -/
def secondByte (w : Half) : Byte := w.extractLsb' 0 8

/-! ### Commands and the opcode ROM (30_encoding.md R86, R87; 40_encoder.md R110, R111) -/

/-- `encode` of a Command (40_encoder.md R110): its sensor opcode, the byte sent first in bits [15:8] (20_memory.md
R62). The values are the table of 30_encoding.md R86, row by row. -/
def sensorOpcode : Command → Half
  | .sleep => 0xB098#16
  | .wakeUp => 0x3517#16
  | .softwareReset => 0x805D#16
  | .readIdRegister => 0xEFC8#16
  | .measure .normal .temperatureFirst false => 0x7866#16
  | .measure .normal .temperatureFirst true => 0x7CA2#16
  | .measure .normal .humidityFirst false => 0x58E0#16
  | .measure .normal .humidityFirst true => 0x5C24#16
  | .measure .lowPower .temperatureFirst false => 0x609C#16
  | .measure .lowPower .temperatureFirst true => 0x6458#16
  | .measure .lowPower .humidityFirst false => 0x401A#16
  | .measure .lowPower .humidityFirst true => 0x44DE#16

/-- The 12 Commands, in the order of the table of 30_encoding.md R86. -/
def allCommands : List Command :=
  [Command.sleep, Command.wakeUp, Command.softwareReset, Command.readIdRegister]
    ++ [Command.measure .normal .temperatureFirst false, Command.measure .normal .temperatureFirst true,
        Command.measure .normal .humidityFirst false, Command.measure .normal .humidityFirst true]
    ++ [Command.measure .lowPower .temperatureFirst false, Command.measure .lowPower .temperatureFirst true,
        Command.measure .lowPower .humidityFirst false, Command.measure .lowPower .humidityFirst true]

/-- The Command a SEL code names (30_encoding.md R86): SEL[3] = 1 is a Measure with SEL[2] = low_power, SEL[1] = order,
SEL[0] = clock_stretching; otherwise SEL[3:2] = 00 and SEL[1:0] picks the Command; 0x4 to 0x7 name none (R87). -/
def selCommand (sel : BitVec 4) : Option Command :=
  if sel.getLsbD 3 then
    some (.measure (modeOfBit (sel.extractLsb' 2 1)) (orderOfBit (sel.extractLsb' 1 1)) (sel.getLsbD 0))
  else if sel.getLsbD 2 then none
  else if sel.getLsbD 1 then
    if sel.getLsbD 0 then some .readIdRegister else some .softwareReset
  else
    if sel.getLsbD 0 then some .wakeUp else some .sleep

/-- The SEL code of a Command (30_encoding.md R86). -/
def commandSel : Command → BitVec 4
  | .sleep => 0x0#4
  | .wakeUp => 0x1#4
  | .softwareReset => 0x2#4
  | .readIdRegister => 0x3#4
  | .measure mode order stretch => 1#1 ++ modeBit mode ++ orderBit order ++ BitVec.ofBool stretch

/-- The opcode ROM, indexed by SEL (40_encoder.md R111): none at 0x4 to 0x7, which hold no opcode and are never read. -/
def opcodeRom (sel : BitVec 4) : Option Half := (selCommand sel).map sensorOpcode

/-- `needs_sleep_cap`: 1 exactly for Sleep and WakeUp (40_encoder.md R112). -/
def needsSleepCap (sel : BitVec 4) : Bool := sel = 0x0#4 || sel = 0x1#4

/-! ### The profile constants (10_state.md R33 to R37) -/

/-- The greater of two durations (10_state.md R35). -/
def maxDur (a b : Half) : Half := if a.ult b then b else a

/-- The row of profile constants a PROF_SEL value selects: R34 for the two families, R35 for the generic profile, the
free row for the reserved value (log 3). -/
def profileRow (p : Config.Params) (sel : BitVec 2) : Config.ProfileRow :=
  if sel = 0#2 then ⟨p.durG1Normal, p.durG1Lp, p.capG1⟩
  else if sel = 1#2 then ⟨p.durG2Normal, p.durG2Lp, p.capG2⟩
  else if sel = 2#2 then ⟨maxDur p.durG1Normal p.durG2Normal, maxDur p.durG1Lp p.durG2Lp, true⟩
  else Config.reservedProfileRow

/-- The row the current PROF_SEL selects: DUR_NORMAL, DUR_LP and SLEEP_CAP are views of it (10_state.md R36). -/
def activeProfile (s : State) : Config.ProfileRow := profileRow s.params s.profSel

/-- `max_duration(mode)` of a row (10_state.md R36). -/
def maxDuration (row : Config.ProfileRow) : PowerMode → Half
  | .normal => row.durNormal
  | .lowPower => row.durLp

/-- SETTLE_US (10_state.md R37): the settle interval in microseconds, the same for every profile. -/
def settleUs : Half := 240#16

/-! ### Register numbers (10_state.md R38) -/

/-- The register numbered REG, zero-extended to 32 bits (20_memory.md R64); none for the reserved numbers 0xE, 0xF. -/
def readRegister (s : State) (reg : BitVec 4) : Option Word :=
  if reg = 0x0#4 then some ((statusRead s.status).setWidth 32)
  else if reg = 0x1#4 then some (s.crc.setWidth 32)
  else if reg = 0x2#4 then some (s.vcrc.setWidth 32)
  else if reg = 0x3#4 then some (s.vgroups.setWidth 32)
  else if reg = 0x4#4 then some (s.failgrp.setWidth 32)
  else if reg = 0x5#4 then some (s.w0.setWidth 32)
  else if reg = 0x6#4 then some (s.w1.setWidth 32)
  else if reg = 0x7#4 then some (s.profSel.setWidth 32)
  else if reg = 0x8#4 then some ((activeProfile s).durNormal.setWidth 32)
  else if reg = 0x9#4 then some ((activeProfile s).durLp.setWidth 32)
  else if reg = 0xA#4 then some ((BitVec.ofBool (activeProfile s).sleepCap).setWidth 32)
  else if reg = 0xB#4 then some (settleUs.setWidth 32)
  else if reg = 0xC#4 then some s.res1
  else if reg = 0xD#4 then some (s.vhold.setWidth 32)
  else none

end Sys2Proof.Machine
end

