-- ==== Sys2Proof/Machine/Encoder.lean ====
section
/-! DEFINITION. The command encoder's requests (40_encoder.md). -/

namespace Sys2Proof.Machine

/-- ENC (40_encoder.md R113): RES0 <- the sensor opcode of SEL, whatever the profile; a reserved SEL is ILLEGAL_ARG. -/
def execEnc (sel : BitVec 4) (s : State) : Host.Outcome State Fault Refusal :=
  match opcodeRom sel with
  | none => .next (raiseError .illegalArg s)
  | some op => .next (finishRes0 (op.setWidth 32) s)

/-- ENC_CHK (40_encoder.md R114): as ENC, but Sleep or WakeUp on a profile without the capability is UNSUPPORTED. -/
def execEncChk (sel : BitVec 4) (s : State) : Host.Outcome State Fault Refusal :=
  match opcodeRom sel with
  | none => .next (raiseError .illegalArg s)
  | some op =>
    if needsSleepCap sel && !(activeProfile s).sleepCap then .next (raiseError .unsupported s)
    else .next (finishRes0 (op.setWidth 32) s)

end Sys2Proof.Machine
end

