-- ==== Sys2Proof/Machine/Profile.lean ====
section
/-! DEFINITION. The sensor profile's requests (44_profile.md). -/

namespace Sys2Proof.Machine

/-- PROF_SET (44_profile.md R200): PROF_SEL <- PSEL; PSEL = 3 is ILLEGAL_ARG. -/
def execProfSet (psel : BitVec 2) (s : State) : Host.Outcome State Fault Refusal :=
  if pselReserved psel then .next (raiseError .illegalArg s)
  else .next { finishOk s with profSel := psel }

/-- PROF_DUR (44_profile.md R201): RES0 <- max_duration(MODE) of the active profile. -/
def execProfDur (mode : PowerMode) (s : State) : Host.Outcome State Fault Refusal :=
  .next (finishRes0 ((maxDuration (activeProfile s) mode).setWidth 32) s)

end Sys2Proof.Machine
end

