-- ==== Sys2Proof/Machine/System.lean ====
section
/-! DEFINITION. The block control requests (45_system.md). -/

namespace Sys2Proof.Machine

/-- NOP (45_system.md R215): STATUS.ERR <- 0, nothing else. -/
def execNop (s : State) : Host.Outcome State Fault Refusal := .next (finishOk s)

/-- RST (45_system.md R216): every register to its reset value. -/
def execRst (s : State) : Host.Outcome State Fault Refusal := .next (finishOk (blockReset s))

/-- REG_RD (45_system.md R217): RES0 <- the register as it was before the request; a reserved REG is ILLEGAL_ARG. -/
def execRegRd (reg : BitVec 4) (s : State) : Host.Outcome State Fault Refusal :=
  match readRegister s reg with
  | some v => .next (finishRes0 v s)
  | none => .next (raiseError .illegalArg s)

end Sys2Proof.Machine
end

