-- ==== Sys2Proof/Machine/Validator.lean ====
section
/-! DEFINITION. The validation contract and the validator's requests (42_validator.md). -/

namespace Sys2Proof.Machine

/-! ### The contract (R150, R151) -/

/-- The outcome of `validate`: Ok, or the index of the first group whose checksum does not match. -/
inductive Verdict where
  | ok
  | checksumError (group : Nat)
deriving DecidableEq, Repr

/-- `validate` from group index `k` on: consecutive groups of exactly 3 bytes, the first mismatch decides, a trailing
group of 1 or 2 bytes is accepted unchecked (42_validator.md R150, R151). -/
def validateFrom (k : Nat) : List Byte → Verdict
  | a :: b :: c :: rest => if crc8 [a, b] ≠ c then .checksumError k else validateFrom (k + 1) rest
  | _ => .ok

/-- `validate(L)` (42_validator.md R150). -/
def validate (bytes : List Byte) : Verdict := validateFrom 0 bytes

/-! ### Requests -/

/-- VAL_START (42_validator.md R152): a new stream; VHOLD, W0, W1 keep their values. -/
def execValStart (s : State) : Host.Outcome State Fault Refusal :=
  let t := finishOk s
  .next { t with
    status := setVpos (setChkerr t.status false) 0#2
    vcrc := 0xFF#8
    vgroups := 0#16
    failgrp := 0xFFFF#16 }

/-- VGROUPS after one more group: it saturates at 0xFFFF (10_state.md R29). -/
def satIncr (n : Half) : Half := if n = 0xFFFF#16 then 0xFFFF#16 else n + 1#16

/-- A group's first byte, at VPOS = 0 (42_validator.md R153). -/
def takeFirst (b : Byte) (s : State) : State :=
  { s with
    vhold := b ++ secondByte s.vhold
    vcrc := crc8Step 0xFF#8 b
    status := setVpos s.status 1#2 }

/-- A group's second byte, at VPOS = 1 (42_validator.md R153). -/
def takeSecond (b : Byte) (s : State) : State :=
  { s with
    vhold := firstByte s.vhold ++ b
    vcrc := crc8Step s.vcrc b
    status := setVpos s.status 2#2 }

/-- The first mismatch of a stream: the checksum differs and CHKERR is still 0 (42_validator.md R153). -/
def firstMismatch (b : Byte) (s : State) : Bool := b ≠ s.vcrc && !chkerrFlag s.status

/-- A group's checksum byte, at VPOS = 2 (42_validator.md R153): the words of groups 0 and 1 are captured whether or not
the group passes, the first mismatch sets CHKERR and FAILGRP, and the group is counted. -/
def takeChecksum (b : Byte) (s : State) : State :=
  { s with
    w0 := if s.vgroups = 0#16 then s.vhold else s.w0
    w1 := if s.vgroups = 1#16 then s.vhold else s.w1
    failgrp := if firstMismatch b s then s.vgroups else s.failgrp
    vgroups := satIncr s.vgroups
    status := setVpos (if firstMismatch b s then setChkerr s.status true else s.status) 0#2 }

/-- VAL_BYTE (42_validator.md R153): one received byte, by its position in the group. The pseudocode's last branch is an
`else`, so it is also the one at VPOS = 3, a value that never occurs (10_state.md R25; log 4). -/
def execValByte (b : Byte) (s : State) : Host.Outcome State Fault Refusal :=
  if vposField s.status = 0#2 then .next (finishOk (takeFirst b s))
  else if vposField s.status = 1#2 then .next (finishOk (takeSecond b s))
  else .next (finishOk (takeChecksum b s))

/-- VAL_CHECK (42_validator.md R154): CHECKSUM if a group of the stream failed, else RES0 <- VGROUPS. -/
def execValCheck (s : State) : Host.Outcome State Fault Refusal :=
  if chkerrFlag s.status then .next (raiseError .checksum s)
  else .next (finishRes0 (s.vgroups.setWidth 32) s)

end Sys2Proof.Machine
end

