-- ==== Sys2Proof/Machine/Dispatch.lean ====
section
/-! DEFINITION. `exec`: one arm per request (30_encoding.md R83), each one call of its meaning. -/

namespace Sys2Proof.Machine

def exec (i : Instr) (s : State) : Host.Outcome State Fault Refusal :=
  match i with
  | .nop => Sys2Proof.Machine.execNop s
  | .rst => Sys2Proof.Machine.execRst s
  | .regRd reg => Sys2Proof.Machine.execRegRd reg s
  | .enc sel => Sys2Proof.Machine.execEnc sel s
  | .encChk sel => Sys2Proof.Machine.execEncChk sel s
  | .crcInit => Sys2Proof.Machine.execCrcInit s
  | .crcByte b => Sys2Proof.Machine.execCrcByte b s
  | .crcWord w => Sys2Proof.Machine.execCrcWord w s
  | .valStart => Sys2Proof.Machine.execValStart s
  | .valByte b => Sys2Proof.Machine.execValByte b s
  | .valCheck => Sys2Proof.Machine.execValCheck s
  | .convT raw => Sys2Proof.Machine.execConvT raw s
  | .convH raw => Sys2Proof.Machine.execConvH raw s
  | .convId raw => Sys2Proof.Machine.execConvId raw s
  | .measT => Sys2Proof.Machine.execMeasT s
  | .measH => Sys2Proof.Machine.execMeasH s
  | .measId => Sys2Proof.Machine.execMeasId s
  | .measTh ord => Sys2Proof.Machine.execMeasTh ord s
  | .profSet psel => Sys2Proof.Machine.execProfSet psel s
  | .profDur mode => Sys2Proof.Machine.execProfDur mode s

end Sys2Proof.Machine
end

