-- ==== Sys2Proof/Machine/Step.lean ====
section
/-! DEFINITION. One step of the machine: one request (20_memory.md R63, 30_encoding.md R80, R88). -/

namespace Sys2Proof.Machine

/-- The block performs one request word: what the word decodes to, or the error its decoding raises (30_encoding.md R88). -/
def perform (w : Word) (s : State) : Host.Outcome State Fault Refusal :=
  match decode w with
  | .ok i => exec i s
  | .error e => .next (raiseError (decodeErrCode e) s)

/-- One step: the word at the request port is taken and performed. While the host presents none, the block does nothing
(log 1). -/
def step (s : State) : Host.Outcome State Fault Refusal :=
  match takeRequest s with
  | none => .next s
  | some (w, s') => perform w s'

/-- The host presents the word `w` at the request port, ahead of what it has still to present (log 1). -/
def State.withFetchWord (s : State) (nbits w : Nat) : State :=
  { s with requests := BitVec.ofNat 32 (w % 2 ^ nbits) :: s.requests }

end Sys2Proof.Machine
end

