-- ==== Sys2Proof/Machine/Environment.lean ====
section
/-! DEFINITION. The host's side of the sensor protocol, OUTSIDE the block (00_scope.md R4, 10_state.md R39): the sensor
power state, the transport's outcomes, the waits, the obligations on the host (70_reset_and_hazards.md R264 to R269) and
the source's operations as sequences (R270). Nothing here is part of State or of `step`. Whatever the spec leaves to the
transport or the sensor is DRAWN: a list of plain data in `Env` that no definition chooses (log 8, log 11, log 12). -/

namespace Sys2Proof.Machine

/-- `SENSOR_PWR` (70_reset_and_hazards.md R264). -/
inductive SensorPower where
  | idle
  | sleeping
deriving DecidableEq, Repr

/-- What the environment answers to one transport action (93_implementation_defined.md: `any value`). -/
structure Draw where
  /-- The transport's error value where the action fails (60_exceptions.md R231). -/
  busError : Option Nat
  /-- The bytes a successful read returns. -/
  bytes : List Byte
  /-- Where the sensor is left by a write for which the source gives no transition. -/
  power : SensorPower
  /-- Where the end of the settle wait takes the sensor after such a write, if anywhere. -/
  powerSettled : Option SensorPower
  /-- Whether a write that failed counts as sent, so that its command leaves its wait owed (log 12). -/
  owesWait : Bool
deriving DecidableEq, Repr

/-- An obligation on the host that an action broke (70_reset_and_hazards.md R265 to R269, 20_memory.md R70). -/
inductive Breach where
  /-- A command before the settle interval elapsed (R265). -/
  | commandBeforeSettled
  /-- A command other than WakeUp to a sleeping sensor (R266). -/
  | commandWhileAsleep
  /-- A read before the measurement wait elapsed (R267). -/
  | readBeforeMeasured
  /-- A command while an operation is in flight (R268) or a measurement wait is owed (log 11). -/
  | overlappingCommand
  /-- A read that is no read of an operation in flight: with no write before it, or a second one for one write (R268). -/
  | readOutsideOperation
  /-- A response's first byte with no VAL_START since the last VAL_BYTE (R269). -/
  | unframedByte
  /-- A response's byte out of the order the sensor sent it in (20_memory.md R70). -/
  | byteOutOfOrder
deriving DecidableEq, Repr

/-- A response the host has read. -/
structure Response where
  /-- Its bytes, in the order the sensor sent them. -/
  bytes : List Byte
  /-- The index of the byte that is next in the sensor's order, 0 where none has been fed to the validator. -/
  fed : Nat
deriving DecidableEq, Repr

/-- The block and its environment. -/
structure Env where
  /-- The block. -/
  block : State
  /-- `P_DEV_ADDR`, the bus address the host uses (00_scope.md R12). -/
  devAddr : Byte
  /-- `SENSOR_PWR` (R264). -/
  power : SensorPower
  /-- The power state the end of the settle wait brings: Idle after a WakeUp (R264: "then waiting 240 µs"). -/
  powerSettled : Option SensorPower
  /-- Whether the attached sensor has the sleep capability (R264: "on a sensor that has the capability"). -/
  sensorCanSleep : Bool
  /-- Microseconds still to wait before the next command (R265). -/
  settleOwed : Nat
  /-- Microseconds still to wait before the response may be read (R267). -/
  measureOwed : Nat
  /-- The Commands whose operations are in flight, the latest first; more than one only where a host breaks R268. -/
  inFlight : List Command
  /-- The responses read so far, the first one first (R269). -/
  responses : List Response
  /-- Whether VAL_START has been issued since the last VAL_BYTE (R269). -/
  fresh : Bool
  /-- The outcomes still to be drawn, the next first. -/
  draws : List Draw
  /-- The address and the two bytes of each write attempted, failed ones among them, the latest first (40_encoder.md
  R115). -/
  written : List (Byte × Byte × Byte)
  /-- The obligations broken so far, the latest first. -/
  breaches : List Breach
deriving DecidableEq, Repr

/-- The environment at the start of a host program: the sensor is Idle (R264) and nothing is owed. -/
def Env.start (block : State) (devAddr : Byte) (sensorCanSleep : Bool) (draws : List Draw) : Env where
  block := block
  devAddr := devAddr
  power := .idle
  powerSettled := none
  sensorCanSleep := sensorCanSleep
  settleOwed := 0
  measureOwed := 0
  inFlight := []
  responses := []
  fresh := false
  draws := draws
  written := []
  breaches := []

/-- How one action of the host ends. -/
inductive ActionResult where
  /-- It was performed; `bytes` is what a read returned, empty otherwise. -/
  | done (bytes : List Byte)
  /-- The transport failed, with its error value (60_exceptions.md R231). -/
  | busError (e : Nat)
  /-- Not an outcome of the hardware: the list of draws is empty, or its next read is not of the length asked for. -/
  | undrawn
deriving DecidableEq, Repr

/-! ### Commands on the wire (R264 to R268) -/

/-- The Command a sensor opcode encodes, if any (30_encoding.md R86). -/
def commandOfOpcode (op : Half) : Option Command :=
  allCommands.find? (fun c => sensorOpcode c == op)

/-- The transitions of SENSOR_PWR the spec gives (70_reset_and_hazards.md R264, R270): the power state once the command is
sent, and what the end of its settle wait makes of it; none where the spec gives no transition. A WakeUp leaves a sleeping
sensor Sleeping until its 240 microseconds have passed (R264), and an Idle one Idle (R270: `wakeup()` ends with SENSOR_PWR =
Idle). A ReadIdRegister in Idle leaves it Idle: the source gives it no transition (DEDUCED, log 11). DESIGN CHOICE (log 11): a
WakeUp written right after a Sleep is taken like any other; the source does not say whether the sensor accepts it then
(91_not_in_source.md). -/
def powerAfter (canSleep : Bool) (power : SensorPower) (c : Option Command) :
    Option (SensorPower × Option SensorPower) :=
  match power, c with
  | .idle, some .sleep => if canSleep then some (.sleeping, none) else none
  | .idle, some .softwareReset => some (.idle, none)
  | .idle, some (.measure _ _ _) => some (.idle, none)
  | .idle, some .readIdRegister => some (.idle, none)
  | .idle, some .wakeUp => some (.idle, none)
  | .sleeping, some .wakeUp => some (.sleeping, some .idle)
  | .sleeping, some .sleep => none
  | .sleeping, some .softwareReset => none
  | .sleeping, some .readIdRegister => none
  | .sleeping, some (.measure _ _ _) => none
  | _, none => none

/-- The settle wait a command leaves the host owing: 240 microseconds after SoftwareReset and WakeUp (R265). DESIGN CHOICE
(log 11): none after a Sleep, of which the source is silent (91_not_in_source.md: "No wait is added"). -/
def settleAfter (c : Option Command) : Nat :=
  match c with
  | some .softwareReset => settleUs.toNat
  | some .wakeUp => settleUs.toNat
  | some .sleep => 0
  | some .readIdRegister => 0
  | some (.measure _ _ _) => 0
  | none => 0

/-- The measurement wait a command leaves the host owing: `max_duration(mode)` of the active profile after a Measure,
whatever its clock-stretching bit (R267). -/
def measureAfter (s : State) (c : Option Command) : Nat :=
  match c with
  | some (.measure mode _ _) => (maxDuration (activeProfile s) mode).toNat
  | some .sleep => 0
  | some .wakeUp => 0
  | some .softwareReset => 0
  | some .readIdRegister => 0
  | none => 0

/-! #### Operations in flight (R268): from the write to the read of the response, or to the end of the settle wait -/

/-- Whether a Command's operation ends with a read of its response (R270). -/
def awaitsResponse : Command → Bool
  | .measure _ _ _ => true
  | .readIdRegister => true
  | .sleep => false
  | .wakeUp => false
  | .softwareReset => false

/-- Whether a Command's operation ends with the settle wait (R265, R270). -/
def awaitsSettle : Command → Bool
  | .softwareReset => true
  | .wakeUp => true
  | .sleep => false
  | .readIdRegister => false
  | .measure _ _ _ => false

/-- A SoftwareReset to a sensor that is not asleep, which may be sent whatever is in flight (R265: "Valid at any time the
sensor is not asleep"). -/
def isValidReset (env : Env) (c : Option Command) : Bool := c = some .softwareReset && env.power = .idle

/-- The operations in flight once a command is sent: its own, unless the write ends it (a Sleep), and those before it, which
a valid SoftwareReset abandons (DESIGN CHOICE, log 11). -/
def flightAfter (env : Env) (c : Option Command) : List Command :=
  c.toList.filter (fun c => awaitsResponse c || awaitsSettle c) ++ if isValidReset env c then [] else env.inFlight

/-- The obligations a command breaks: the settle interval, which has no exception (R265), the sleep discipline (R266), and
one transaction at a time (R268), which a valid SoftwareReset does not break (R265). Log 11. -/
def commandBreaches (env : Env) (c : Option Command) : List Breach :=
  (if env.settleOwed ≠ 0 then [.commandBeforeSettled] else [])
    ++ (if env.power = .sleeping ∧ c ≠ some .wakeUp then [.commandWhileAsleep] else [])
    ++ (if (env.inFlight ≠ [] ∨ env.measureOwed ≠ 0) ∧ isValidReset env c = false then [.overlappingCommand] else [])

/-- The obligations a read breaks: the measurement wait (R267), and one read for one write (R268). -/
def readBreaches (env : Env) : List Breach :=
  (if env.measureOwed ≠ 0 then [.readBeforeMeasured] else [])
    ++ (if env.inFlight.any awaitsResponse then [] else [.readOutsideOperation])

/-- The waits a command leaves owing once it is sent; a wait owed already is not shortened (R265, R267). -/
def oweWaits (c : Option Command) (env : Env) : Env :=
  { env with
    settleOwed := max env.settleOwed (settleAfter c)
    measureOwed := max env.measureOwed (measureAfter env.block c) }

/-- The sensor's power state after a write that succeeds: R264's where the settle wait has elapsed and the rule has a
transition, drawn where it has not (R265) or has none (R266, 93_implementation_defined.md). DESIGN CHOICE (log 11): a
measurement wait still owed does not matter here. The spec leaves the outcome of a command sent before it has elapsed open
(91_not_in_source.md), and R264's Measuring phase is no value of SENSOR_PWR, so R264's transitions are taken. -/
def sentPower (d : Draw) (c : Option Command) (env : Env) : SensorPower × Option SensorPower :=
  if env.settleOwed = 0 then (powerAfter env.sensorCanSleep env.power c).getD (d.power, d.powerSettled)
  else (d.power, d.powerSettled)

/-- Transport action `write`: the host sends two bytes to the sensor (R270). The outcome is drawn. A write that succeeds
leaves its command's waits owed and its operation in flight; one that fails ends its operation (R231). DESIGN CHOICE (log 12): after a write that fails with BusError the spec says neither what
the sensor's power state is nor whether the command counts as sent and leaves its settle or measurement wait owed (R231,
R265, R267), so all of these are drawn. -/
def transportWrite (first second : Byte) (env : Env) : ActionResult × Env :=
  match env.draws with
  | [] => (.undrawn, env)
  | d :: rest =>
    let c := commandOfOpcode (first ++ second)
    let env' := { env with
      draws := rest
      written := (env.devAddr, first, second) :: env.written
      breaches := commandBreaches env c ++ env.breaches }
    match d.busError with
    | some e =>
      (.busError e,
        { (if d.owesWait then oweWaits c env' else env') with power := d.power, powerSettled := d.powerSettled })
    | none =>
      (.done [],
        { oweWaits c env' with
          power := (sentPower d c env).1
          powerSettled := (sentPower d c env).2
          inFlight := flightAfter env c })

/-- Transport action `read`: the host reads `n` bytes. The outcome and the bytes are drawn (R267). A read, failed or not,
ends the operation it belongs to (R231, R268). -/
def transportRead (n : Nat) (env : Env) : ActionResult × Env :=
  match env.draws with
  | [] => (.undrawn, env)
  | d :: rest =>
    let env' := { env with
      draws := rest
      inFlight := env.inFlight.eraseP awaitsResponse
      breaches := readBreaches env ++ env.breaches }
    match d.busError with
    | some e => (.busError e, env')
    | none =>
      if d.bytes.length = n then (.done d.bytes, { env' with responses := env.responses ++ [⟨d.bytes, 0⟩] })
      else (.undrawn, env)

/-- The host waits at least `us` microseconds (R265, R267, R272): a lower bound, never an upper one (R271). The end of the
settle wait brings the power state it was to bring (R264), and ends the operations that end with it (R270). -/
def hostWait (us : Nat) (env : Env) : Env :=
  let env' := { env with settleOwed := env.settleOwed - us, measureOwed := env.measureOwed - us }
  if env'.settleOwed = 0 then
    { env' with
      power := env.powerSettled.getD env.power
      powerSettled := none
      inFlight := env.inFlight.filter (fun c => !awaitsSettle c) }
  else env'

/-! ### Requests and response bytes (R269, 20_memory.md R70) -/

/-- Whether a request leaves the validator with a VAL_START since the last VAL_BYTE (R269). -/
def freshAfter (fresh : Bool) (i : Instr) : Bool :=
  if i = .valStart then true
  else if opcodeOfInstr i = .valByte then false
  else fresh

/-- The host presents a request to the block (30_encoding.md R80). The block never stops (60_exceptions.md R232), so the
last two answers do not arise. A VAL_BYTE that carries a byte of a response is `hostFeed`. -/
def hostRequest (i : Instr) (env : Env) : Env :=
  match perform (encode i) env.block with
  | .next t => { env with block := t, fresh := freshAfter env.fresh i }
  | .fault _ => env
  | .refused _ => env

/-- The obligations that feeding byte `k` of a response breaks: the first VAL_BYTE of the response, or of one fed again from
its first byte, needs a VAL_START since the VAL_BYTE before it (R269), and the bytes go in order (20_memory.md R70). -/
def feedBreaches (fresh : Bool) (r : Response) (k : Nat) : List Breach :=
  (if (r.fed = 0 ∨ k = 0) ∧ fresh = false then [.unframedByte] else [])
    ++ (if k ≠ 0 ∧ k ≠ r.fed then [.byteOutOfOrder] else [])

/-- The host feeds byte `k` of response number `n` to the validator (R269); nothing happens where there is no such byte. -/
def hostFeed (n k : Nat) (env : Env) : Env :=
  match env.responses[n]? with
  | none => env
  | some r =>
    match r.bytes[k]? with
    | none => env
    | some b =>
      { hostRequest (.valByte b) env with
        responses := env.responses.set n { r with fed := k + 1 }
        breaches := feedBreaches env.fresh r k ++ env.breaches }

/-- Feed `count` bytes of response number `n`, from byte `k` on, in order (20_memory.md R70). -/
def feedResponse (n : Nat) : (count k : Nat) → Env → Env
  | 0, _, env => env
  | count + 1, k, env => feedResponse n count (k + 1) (hostFeed n k env)

/-! ### The source's operations (70_reset_and_hazards.md R270) -/

/-- The public operations of the source. -/
inductive HostOp where
  | reset
  | sleep
  | wakeup
  | measure (mode : PowerMode)
  | measureTemperature (mode : PowerMode)
  | measureHumidity (mode : PowerMode)
  | rawIdRegister
  | deviceIdentifier
deriving DecidableEq, Repr

/-- One part of an operation. -/
inductive OpPart where
  /-- Issue a request; an error it raises ends the operation. -/
  | request (i : Instr)
  /-- write(RES0 bytes): RES0[15:8], then RES0[7:0] (40_encoder.md R115). -/
  | sendResult
  /-- Wait as many microseconds as RES0 says (after PROF_DUR). -/
  | waitResult
  /-- Wait SETTLE_US. -/
  | waitSettle
  /-- read(n), then VAL_START, then one VAL_BYTE for each byte in order (20_memory.md R70). -/
  | receive (n : Nat)
deriving DecidableEq, Repr

/-- How an operation ends (R270): Ok, the error a request raised, or the transport's. -/
inductive OpResult where
  | ok
  | blockError (e : BitVec 4)
  | busError (e : Nat)
  /-- Not an outcome of the hardware: see `ActionResult.undrawn`. -/
  | undrawn
deriving DecidableEq, Repr

/-- The non-stretching Measure code of a mode and an order (R270): ENC 0x8, 0xC, 0xA or 0xE. -/
def measureSel (mode : PowerMode) (order : Order) : BitVec 4 := commandSel (.measure mode order false)

/-- A measurement: send the Measure, wait PROF_DUR, read the response, convert (R270). -/
def measureParts (mode : PowerMode) (order : Order) (n : Nat) (convert : Instr) : List OpPart :=
  [.request (.enc (measureSel mode order)), .sendResult, .request (.profDur mode), .waitResult, .receive n,
    .request convert]

/-- Each operation as a sequence (70_reset_and_hazards.md R270). -/
def opParts : HostOp → List OpPart
  | .reset => [.request (.enc 0x2#4), .sendResult, .waitSettle]
  | .sleep => [.request (.encChk 0x0#4), .sendResult]
  | .wakeup => [.request (.encChk 0x1#4), .sendResult, .waitSettle]
  | .measure mode => measureParts mode .temperatureFirst 6 (.measTh .temperatureFirst)
  | .measureTemperature mode => measureParts mode .temperatureFirst 3 .measT
  | .measureHumidity mode => measureParts mode .humidityFirst 3 .measH
  | .rawIdRegister =>
    [.request (.enc 0x3#4), .sendResult, .receive 3, .request .valCheck, .request (.regRd 0x5#4)]
  | .deviceIdentifier => [.request (.enc 0x3#4), .sendResult, .receive 3, .request .measId]

/-- One part of an operation: none to go on, or how the operation ends. -/
def runPart (p : OpPart) (env : Env) : Option OpResult × Env :=
  match p with
  | .request i =>
    let env' := hostRequest i env
    (if errField env'.block.status = errBits .ok then none else some (.blockError (errField env'.block.status)), env')
  | .sendResult =>
    match transportWrite (env.block.res0.extractLsb' 8 8) (env.block.res0.extractLsb' 0 8) env with
    | (.done _, env') => (none, env')
    | (.busError e, env') => (some (.busError e), env')
    | (.undrawn, env') => (some .undrawn, env')
  | .waitResult => (none, hostWait env.block.res0.toNat env)
  | .waitSettle => (none, hostWait settleUs.toNat env)
  | .receive n =>
    match transportRead n env with
    | (.done _, env') => (none, feedResponse env.responses.length n 0 (hostRequest .valStart env'))
    | (.busError e, env') => (some (.busError e), env')
    | (.undrawn, env') => (some .undrawn, env')

/-- The parts of an operation in order; the first that ends it decides (60_exceptions.md R231). -/
def runParts : List OpPart → Env → OpResult × Env
  | [], env => (.ok, env)
  | p :: rest, env =>
    match runPart p env with
    | (none, env') => runParts rest env'
    | (some r, env') => (r, env')

/-- A host operation (70_reset_and_hazards.md R270). -/
def runOp (op : HostOp) (env : Env) : OpResult × Env := runParts (opParts op) env

end Sys2Proof.Machine
end

