-- ==== Sys2Proof/Machine/Program.lean ====
section
/-! DEFINITION. Host programs over the block: a run of a list of requests (70_reset_and_hazards.md R273), the
assembler's words (30_encoding.md R89) and the pseudo-instructions (R90). -/

namespace Sys2Proof.Machine

/-! ### A run (70_reset_and_hazards.md R273) -/

/-- A run: the requests in order from a start state, to the last one. The observation is the response after each request
(its STATUS holds the request's ERR) and the block state at the end. An error never ends it (60_exceptions.md R232). -/
def runProgram : List Word → State → Host.Outcome (List (Word × Word × Half) × State) Fault Refusal
  | [], s => .next ([], s)
  | w :: ws, s =>
    match perform w s with
    | .next t =>
      match runProgram ws t with
      | .next (observed, u) => .next (response t :: observed, u)
      | .fault f => .fault f
      | .refused r => .refused r
    | .fault f => .fault f
    | .refused r => .refused r

/-! ### The pseudo-instructions (30_encoding.md R90) -/

/-- `FEED b0, ..., bn-1`. -/
def feed (bytes : List Byte) : List Instr := bytes.map Instr.valByte

/-- `CRCS b0, ..., bn-1`. -/
def crcs (bytes : List Byte) : List Instr := .crcInit :: bytes.map Instr.crcByte

/-- `RESPONSE b0, ..., bn-1`. -/
def responseStream (bytes : List Byte) : List Instr := .valStart :: (feed bytes ++ [.valCheck])

/-! ### The assembler (30_encoding.md R89) -/

/-- The spelling of each mnemonic (30_encoding.md R83). -/
def mnemonicOf : Opcode → String
  | .nop => "NOP"
  | .rst => "RST"
  | .regRd => "REG_RD"
  | .enc => "ENC"
  | .encChk => "ENC_CHK"
  | .crcInit => "CRC_INIT"
  | .crcByte => "CRC_BYTE"
  | .crcWord => "CRC_WORD"
  | .valStart => "VAL_START"
  | .valByte => "VAL_BYTE"
  | .valCheck => "VAL_CHECK"
  | .convT => "CONV_T"
  | .convH => "CONV_H"
  | .convId => "CONV_ID"
  | .measT => "MEAS_T"
  | .measH => "MEAS_H"
  | .measId => "MEAS_ID"
  | .measTh => "MEAS_TH"
  | .profSet => "PROF_SET"
  | .profDur => "PROF_DUR"

/-- The names that may stand for an operand, and the values they stand for (30_encoding.md R89). -/
def operandNames : Opcode → List (String × Half)
  | .enc => selNames
  | .encChk => selNames
  | .profSet => [("G1", 0#16), ("G2", 1#16), ("GENERIC", 2#16)]
  | .profDur => [("NORMAL", 0#16), ("LOWPOWER", 1#16)]
  | .measTh => [("TFIRST", 0#16), ("HFIRST", 1#16)]
  | .nop => []
  | .rst => []
  | .regRd => []
  | .crcInit => []
  | .crcByte => []
  | .crcWord => []
  | .valStart => []
  | .valByte => []
  | .valCheck => []
  | .convT => []
  | .convH => []
  | .convId => []
  | .measT => []
  | .measH => []
  | .measId => []
where
  /-- The SEL names: `MEAS_<N|L>_<T|H>_<NS|S>` for the Measure codes. -/
  selNames : List (String × Half) :=
    [("SLEEP", 0x0#16), ("WAKEUP", 0x1#16), ("SRESET", 0x2#16), ("READID", 0x3#16)]
      ++ [("MEAS_N_T_NS", 0x8#16), ("MEAS_N_T_S", 0x9#16), ("MEAS_N_H_NS", 0xA#16), ("MEAS_N_H_S", 0xB#16)]
      ++ [("MEAS_L_T_NS", 0xC#16), ("MEAS_L_T_S", 0xD#16), ("MEAS_L_H_NS", 0xE#16), ("MEAS_L_H_S", 0xF#16)]

/-- The value of one digit in the given base (10 or 16), or none. -/
def digitValue (base : Nat) (c : Char) : Option Nat :=
  let v :=
    if '0'.toNat ≤ c.toNat && c.toNat ≤ '9'.toNat then some (c.toNat - '0'.toNat)
    else if 'a'.toNat ≤ c.toNat && c.toNat ≤ 'f'.toNat then some (c.toNat - 'a'.toNat + 10)
    else if 'A'.toNat ≤ c.toNat && c.toNat ≤ 'F'.toNat then some (c.toNat - 'A'.toNat + 10)
    else none
  v.bind (fun d => if d < base then some d else none)

/-- The value of a run of digits after `acc`, or none where a character is no digit. -/
def digitsValue (base acc : Nat) : List Char → Option Nat
  | [] => some acc
  | c :: rest => (digitValue base c).bind (fun d => digitsValue base (acc * base + d) rest)

/-- A number in decimal or `0x` hexadecimal (30_encoding.md R89). DESIGN CHOICE (log 13): either case of a hexadecimal digit
and leading zeros are read, and no other form of a number is. -/
def numberValue (chars : List Char) : Option Nat :=
  match chars with
  | [] => none
  | '0' :: 'x' :: [] => none
  | '0' :: 'x' :: rest => digitsValue 16 0 rest
  | all => digitsValue 10 0 all

/-- An operand of a request: a name (30_encoding.md R89) or a number below 2^16. A number too large for its field is
not refused here: the word it gives raises ILLEGAL_ARG (95_test_vectors.md, `CRC_BYTE 0x1BE`). DESIGN CHOICE (log 13): a
number of 2^16 or more, which does not fit ARG and of which the spec is silent, has no word. -/
def operandValue (o : Opcode) (operand : String) : Option Half :=
  match (operandNames o).find? (fun e => e.1 == operand) with
  | some e => some e.2
  | none => (numberValue operand.toList).bind (fun n => if n < 2 ^ 16 then some (BitVec.ofNat 16 n) else none)

/-- The opcode a mnemonic spells (30_encoding.md R83). -/
def opcodeNamed (mnemonic : String) : Option Opcode := allOpcodes.find? (fun o => mnemonicOf o == mnemonic)

/-- The word of a mnemonic and its ARG value: `OP << 24 | field value` (30_encoding.md R89). -/
def wordOf (o : Opcode) (arg : Half) : Word := opBits o ++ 0#8 ++ arg

/-- The assembler: `MNEMONIC` for the Z format and `MNEMONIC operand` otherwise (30_encoding.md R89). -/
def assemble (mnemonic : String) (operand : Option String) : Option Word :=
  match opcodeNamed mnemonic with
  | none => none
  | some o =>
    match formatOf o, operand with
    | .z, none => some (wordOf o 0#16)
    | .z, some _ => none
    | _, none => none
    | _, some text => (operandValue o text).map (wordOf o)

end Sys2Proof.Machine
end

