-- ==== Sys2Proof/Safety.lean ====
section
/-! DEFINITION. The terms claims are stated in: how a request ends and what it leaves alone, what a word presented at
the port does, the opcode table's rows, the states the block reaches, and what counts as a safe run. -/

namespace Sys2Proof.Safety

open Sys2Proof.Machine

/-! ### How a request ends -/

/-- STATUS with ERR = `e` and every other bit as in `old` (10_state.md R22, bits [3:0] and [15:4]). -/
def ErrWritten (e : BitVec 4) (old new : Half) : Prop :=
  new.extractLsb' 0 4 = e ∧ new.extractLsb' 4 12 = old.extractLsb' 4 12

/-- `t` is `base` with STATUS.ERR = `e`, and nothing else of it changed: no register, no parameter, no request still to
come. With `base` the state before, the request changed nothing but ERR. -/
def EndsWith (e : BitVec 4) (base t : State) : Prop :=
  ∃ st, ErrWritten e base.status st ∧ t = { base with status := st }

/-- STATUS field by field (10_state.md R22), its reserved bits as in `old`. -/
def StatusReads (old new : Half) (e : BitVec 4) (chkerr : Bool) (vpos : BitVec 2) : Prop :=
  new.extractLsb' 0 4 = e ∧ new.getLsbD 4 = chkerr ∧ new.extractLsb' 5 2 = vpos
    ∧ new.extractLsb' 7 9 = old.extractLsb' 7 9

/-! ### A word at the request port -/

/-- `s` with the word `w` presented next (30_encoding.md R80). -/
def present (w : Word) (s : State) : State := { s with requests := w :: s.requests }

/-- What every word of one request opcode does (30_encoding.md R81, R85, R88): a nonzero RSV raises ILLEGAL_OP (3), an
illegal argument ILLEGAL_ARG (4), and otherwise the step is the request's own. -/
def WordRuns (op : Byte) (legal : Half → Bool) (request : Half → Instr) : Prop :=
  ∀ (rsv : Byte) (arg : Half) (s : State),
    if rsv ≠ 0#8 then ∃ t, step (present (op ++ rsv ++ arg) s) = .next t ∧ EndsWith 3#4 s t
    else if legal arg then step (present (op ++ rsv ++ arg) s) = exec (request arg) s
    else ∃ t, step (present (op ++ rsv ++ arg) s) = .next t ∧ EndsWith 4#4 s t

/-- SEL of the S4 format is legal: ARG[15:4] zero and SEL none of 0x4 to 0x7 (30_encoding.md R82, R87). -/
def selArgLegal (arg : Half) : Bool :=
  arg.toNat < 16 && (arg.toNat < 4 || 8 ≤ arg.toNat)

/-! ### The opcode table (spec/opcode_table.json, its columns `match` and `mask`) -/

/-- `match` of each row. -/
def rowMatch : Opcode → Word
  | .nop => 0x00000000#32
  | .rst => 0x01000000#32
  | .regRd => 0x02000000#32
  | .enc => 0x10000000#32
  | .encChk => 0x11000000#32
  | .crcInit => 0x20000000#32
  | .crcByte => 0x21000000#32
  | .crcWord => 0x22000000#32
  | .valStart => 0x30000000#32
  | .valByte => 0x31000000#32
  | .valCheck => 0x32000000#32
  | .convT => 0x40000000#32
  | .convH => 0x41000000#32
  | .convId => 0x42000000#32
  | .measT => 0x48000000#32
  | .measH => 0x49000000#32
  | .measId => 0x4A000000#32
  | .measTh => 0x4B000000#32
  | .profSet => 0x50000000#32
  | .profDur => 0x51000000#32

/-- `mask` of each row. -/
def rowMask : Opcode → Word
  | .nop => 0xFFFFFFFF#32
  | .rst => 0xFFFFFFFF#32
  | .regRd => 0xFFFFFFF0#32
  | .enc => 0xFFFFFFF0#32
  | .encChk => 0xFFFFFFF0#32
  | .crcInit => 0xFFFFFFFF#32
  | .crcByte => 0xFFFFFF00#32
  | .crcWord => 0xFFFF0000#32
  | .valStart => 0xFFFFFFFF#32
  | .valByte => 0xFFFFFF00#32
  | .valCheck => 0xFFFFFFFF#32
  | .convT => 0xFFFF0000#32
  | .convH => 0xFFFF0000#32
  | .convId => 0xFFFF0000#32
  | .measT => 0xFFFFFFFF#32
  | .measH => 0xFFFFFFFF#32
  | .measId => 0xFFFFFFFF#32
  | .measTh => 0xFFFFFFFE#32
  | .profSet => 0xFFFFFFFC#32
  | .profDur => 0xFFFFFFFE#32

/-- The sensor opcode table (30_encoding.md R86): SEL and the 16-bit output of each Command. -/
def sensorTable : List (BitVec 4 × Half) :=
  [(0x0#4, 0xB098#16), (0x1#4, 0x3517#16), (0x2#4, 0x805D#16), (0x3#4, 0xEFC8#16)]
    ++ [(0x8#4, 0x7866#16), (0x9#4, 0x7CA2#16), (0xA#4, 0x58E0#16), (0xB#4, 0x5C24#16)]
    ++ [(0xC#4, 0x609C#16), (0xD#4, 0x6458#16), (0xE#4, 0x401A#16), (0xF#4, 0x44DE#16)]

/-! ### States -/

/-- Every register at its reset value (70_reset_and_hazards.md R260). -/
def AtReset (s : State) : Prop :=
  s.status = 0x0000#16 ∧ s.crc = 0xFF#8 ∧ s.vcrc = 0xFF#8 ∧ s.vhold = 0x0000#16 ∧ s.vgroups = 0x0000#16
    ∧ s.failgrp = 0xFFFF#16 ∧ s.w0 = 0x0000#16 ∧ s.w1 = 0x0000#16 ∧ s.res0 = 0x00000000#32
    ∧ s.res1 = 0x00000000#32 ∧ s.profSel = 2#2

/-- STATUS in a state the block reaches: reserved bits zero (10_state.md R22), ERR no reserved code (60_exceptions.md
R230), VPOS never 3 (10_state.md R25). -/
abbrev StatusOk (s : State) : Prop :=
  s.status.extractLsb' 7 9 = 0#9 ∧ (s.status.extractLsb' 0 4).toNat ≤ 5 ∧ s.status.extractLsb' 5 2 ≠ 3#2

/-- FAILGRP in a state the block reaches (10_state.md R30): 0xFFFF while no group has failed, and afterwards the index
of a group that has been counted, or 0xFFFF with the count saturated. -/
abbrev FailgrpOk (s : State) : Prop :=
  if s.status.getLsbD 4 then
    s.failgrp.toNat < s.vgroups.toNat ∨ s.failgrp = 0xFFFF#16 ∧ s.vgroups = 0xFFFF#16
  else s.failgrp = 0xFFFF#16

/-- VCRC in a state the block reaches: the crc8 of the bytes of the unfinished group (42_validator.md R153). -/
abbrev VcrcOk (s : State) : Prop :=
  (s.status.extractLsb' 5 2 = 1#2 → s.vcrc = crc8 [s.vhold.extractLsb' 8 8])
    ∧ (s.status.extractLsb' 5 2 = 2#2 → s.vcrc = crc8 [s.vhold.extractLsb' 8 8, s.vhold.extractLsb' 0 8])

/-- THE INVARIANT of the block: STATUS, FAILGRP and VCRC as above, PROF_SEL never the reserved 3 (10_state.md R33), and
RES1 never beyond the greatest humidity (43_converter.md R171). -/
abbrev StateOk (s : State) : Prop :=
  StatusOk s ∧ FailgrpOk s ∧ VcrcOk s ∧ s.profSel ≠ 3#2 ∧ s.res1.toNat ≤ 99998

/-! ### Runs -/

/-- A safe run of a host program: every request ends with ERR = 0 (60_exceptions.md R230). -/
def SafeRun (ws : List Word) (s : State) : Prop :=
  ∃ observed t, runProgram ws s = .next (observed, t) ∧ ∀ r ∈ observed, errField r.2.2 = 0#4

/-- The words of a host program that are bytes of its stream, in order: those that decode to VAL_BYTE
(42_validator.md R155). -/
def streamBytes (ws : List Word) : List Byte :=
  ws.filterMap (fun w => match decode w with
    | .ok (.valByte b) => some b
    | _ => none)

/-- A word that neither starts a stream nor resets the block (42_validator.md R155). -/
def keepsStream (w : Word) : Bool := decode w ≠ .ok .valStart && decode w ≠ .ok .rst

/-- The data bytes of the unfinished group of a stream: its last `length mod 3` bytes (42_validator.md R151). -/
def pendingBytes (bytes : List Byte) : List Byte := bytes.drop (3 * (bytes.length / 3))

/-- The data word of group `k` of a stream, the first byte in [15:8] (20_memory.md R61). -/
def groupWord (bytes : List Byte) (k : Nat) : Half := bytes.getD (3 * k) 0#8 ++ bytes.getD (3 * k + 1) 0#8

/-- The validator's registers are what `validate` and the stream's bytes say (42_validator.md R153, R155): the verdict in
CHKERR and FAILGRP, the count in VGROUPS, the words of groups 0 and 1, and the position, the bytes and the running CRC of
the unfinished group. -/
def StreamAgrees (bytes : List Byte) (s : State) : Prop :=
  (s.status.getLsbD 4 = true ↔ validate bytes ≠ .ok)
    ∧ (validate bytes = .ok → s.failgrp = 0xFFFF#16)
    ∧ (∀ k, validate bytes = .checksumError k → s.failgrp.toNat = min k 65535)
    ∧ s.vgroups.toNat = min (bytes.length / 3) 65535
    ∧ (s.status.extractLsb' 5 2).toNat = bytes.length % 3
    ∧ (1 ≤ bytes.length / 3 → s.w0 = groupWord bytes 0)
    ∧ (2 ≤ bytes.length / 3 → s.w1 = groupWord bytes 1)
    ∧ (1 ≤ bytes.length % 3 → s.vhold.extractLsb' 8 8 = (pendingBytes bytes).getD 0 0#8)
    ∧ (2 ≤ bytes.length % 3 → s.vhold.extractLsb' 0 8 = (pendingBytes bytes).getD 1 0#8)
    ∧ (bytes.length % 3 ≠ 0 → s.vcrc = crc8 (pendingBytes bytes))

/-- How many writes, waits and reads an operation makes (70_reset_and_hazards.md R268). -/
def writeCount (op : HostOp) : Nat := (opParts op).countP (· == .sendResult)

def waitCount (op : HostOp) : Nat := (opParts op).countP (fun p => p == .waitResult || p == .waitSettle)

def readCount (op : HostOp) : Nat :=
  (opParts op).countP (fun p => match p with
    | .receive _ => true
    | .request _ => false
    | .sendResult => false
    | .waitResult => false
    | .waitSettle => false)

/-- A host that has kept its obligations towards the sensor so far (70_reset_and_hazards.md R264 to R269). -/
def KeepsObligations (env : Env) : Prop := env.breaches = []

end Sys2Proof.Safety
end

