-- ==== Sys2Proof/Certificates/Slice0/Obligations.lean ====
section
/-! DEFINITION. The statements for the provers, in the terms of Sys2Proof/Safety.lean. `EndsWith e base t` says that `t` is
`base` with STATUS.ERR = `e` and nothing else changed, so each equation below is a result and its frame at once: every
register, parameter and request not named in `base` is as it was. -/

open Sys2Proof Sys2Proof.Machine Sys2Proof.Safety

/-! ### System requests (45_system.md) -/

/-- R215: NOP clears ERR and changes nothing else, CHKERR included; what each word of OP 0x00 does. -/
def Obligations.NopOnlyClearsErr : Prop :=
  (∀ s : State, ∃ t, exec .nop s = .next t ∧ EndsWith 0#4 s t)
    ∧ WordRuns 0x00#8 (fun arg => arg == 0#16) (fun _ => .nop)

/-- RST loads every register's reset value (R216); that the parameters and the host's remaining requests, the model's own
fields and no registers, stay is DEDUCED (log 10). -/
def Obligations.RstLoadsEveryResetValue : Prop :=
  (∀ s : State, ∃ t, exec .rst s = .next t ∧ AtReset t ∧ t.params = s.params ∧ t.requests = s.requests)
    ∧ WordRuns 0x01#8 (fun arg => arg == 0#16) (fun _ => .rst)

/-- Power-on reset leaves every register at the table's value, whatever the parameters, and RST loads the same values (R260);
that RST keeps the parameters and the host's remaining requests is DEDUCED (log 10). -/
def Obligations.PowerOnAndRstLoadTheSameValues : Prop :=
  (∀ p : Config.Params, AtReset (State.resetWith p) ∧ (State.resetWith p).params = p) ∧ AtReset State.reset
    ∧ ∀ s : State, exec .rst s = .next { State.resetWith s.params with requests := s.requests }

/-- R217: REG_RD of each assigned number gives that register as it was before the request, zero-extended, STATUS with its
reserved bits zero; the two reserved numbers raise ILLEGAL_ARG; what each word of OP 0x02 does. -/
def Obligations.RegRdReadsTheNumberedRegister : Prop :=
  (∀ s : State,
      ∀ e ∈ [(0x0#4, (0#9 ++ s.status.extractLsb' 0 7).setWidth 32), (0x1#4, s.crc.setWidth 32),
          (0x2#4, s.vcrc.setWidth 32), (0x3#4, s.vgroups.setWidth 32), (0x4#4, s.failgrp.setWidth 32),
          (0x5#4, s.w0.setWidth 32), (0x6#4, s.w1.setWidth 32)]
        ++ [(0x7#4, s.profSel.setWidth 32), (0x8#4, (activeProfile s).durNormal.setWidth 32),
          (0x9#4, (activeProfile s).durLp.setWidth 32),
          (0xA#4, if (activeProfile s).sleepCap then 1#32 else 0#32), (0xB#4, 240#32), (0xC#4, s.res1),
          (0xD#4, s.vhold.setWidth 32)],
        ∃ t, exec (.regRd e.1) s = .next t ∧ EndsWith 0#4 { s with res0 := e.2 } t)
    ∧ (∀ s : State, ∀ reg ∈ [0xE#4, 0xF#4], ∃ t, exec (.regRd reg) s = .next t ∧ EndsWith 4#4 s t)
    ∧ WordRuns 0x02#8 (fun arg => decide (arg.toNat < 14)) (fun arg => .regRd (arg.extractLsb' 0 4))

/-! ### The command encoder (40_encoder.md) -/

/-- R113: ENC of each assigned SEL gives the table's sensor opcode whatever the profile; a reserved SEL raises
ILLEGAL_ARG; what each word of OP 0x10 does. -/
def Obligations.EncGivesTheTablesSensorOpcode : Prop :=
  (∀ s : State, ∀ e ∈ sensorTable,
      ∃ t, exec (.enc e.1) s = .next t ∧ EndsWith 0#4 { s with res0 := e.2.setWidth 32 } t)
    ∧ (∀ s : State, ∀ sel ∈ [0x4#4, 0x5#4, 0x6#4, 0x7#4],
      ∃ t, exec (.enc sel) s = .next t ∧ EndsWith 4#4 s t)
    ∧ WordRuns 0x10#8 selArgLegal (fun arg => .enc (arg.extractLsb' 0 4))

/-- R114: ENC_CHK gives the same sensor opcode, but raises UNSUPPORTED for Sleep and WakeUp where the active profile has
no sleep capability; a reserved SEL raises ILLEGAL_ARG, whatever the profile; what each word of OP 0x11 does. -/
def Obligations.EncChkTestsTheSleepCapability : Prop :=
  (∀ s : State, ∀ e ∈ sensorTable, (e.1 ≠ 0x0#4 ∧ e.1 ≠ 0x1#4) ∨ (activeProfile s).sleepCap = true →
      ∃ t, exec (.encChk e.1) s = .next t ∧ EndsWith 0#4 { s with res0 := e.2.setWidth 32 } t)
    ∧ (∀ s : State, ∀ sel ∈ [0x0#4, 0x1#4], (activeProfile s).sleepCap = false →
      ∃ t, exec (.encChk sel) s = .next t ∧ EndsWith 2#4 s t)
    ∧ (∀ s : State, ∀ sel ∈ [0x4#4, 0x5#4, 0x6#4, 0x7#4],
      ∃ t, exec (.encChk sel) s = .next t ∧ EndsWith 4#4 s t)
    ∧ WordRuns 0x11#8 selArgLegal (fun arg => .encChk (arg.extractLsb' 0 4))

/-- The opcode ROM serves every Command under the SEL bits of R86, gives no two Commands one opcode, and each opcode's
second byte is the checksum residue 95_test_vectors.md section 2.1 derives. -/
def Obligations.OpcodeRomServesEveryCommand : Prop :=
  (∀ c : Command, opcodeRom (commandSel c) = some (sensorOpcode c))
    ∧ (∀ (mode : PowerMode) (order : Order) (stretch : Bool),
      (commandSel (.measure mode order stretch)).getLsbD 3 = true
        ∧ ((commandSel (.measure mode order stretch)).getLsbD 2 = true ↔ mode = .lowPower)
        ∧ ((commandSel (.measure mode order stretch)).getLsbD 1 = true ↔ order = .humidityFirst)
        ∧ (commandSel (.measure mode order stretch)).getLsbD 0 = stretch)
    ∧ (∀ c c' : Command, sensorOpcode c = sensorOpcode c' → c = c')
    ∧ ∀ c : Command, crc8 [(sensorOpcode c).extractLsb' 8 8, (sensorOpcode c).extractLsb' 0 8] = 0x90#8

/-! ### The CRC unit (41_crc.md) -/

/-- R131: the bit-serial step is the table's entry at `c XOR b`, on every register value and byte. -/
def Obligations.CrcTableEqualsTheBitSerialStep : Prop :=
  crc8Table.length = 256 ∧ ∀ c b : Byte, crc8Table[(c ^^^ b).toNat]? = some (crc8Step c b)

/-- R132: CRC_INIT sets CRC to 0xFF and leaves VCRC and the results; what each word of OP 0x20 does. -/
def Obligations.CrcInitRestartsTheRegister : Prop :=
  (∀ s : State, ∃ t, exec .crcInit s = .next t ∧ EndsWith 0#4 { s with crc := 0xFF#8 } t)
    ∧ WordRuns 0x20#8 (fun arg => arg == 0#16) (fun _ => .crcInit)

/-- R133: CRC_BYTE steps CRC and gives the new value; a byte equal to the register zeroes it; after CRC_INIT, or
from a CRC of 0xFF as reset leaves it, and a list of bytes, CRC is the crc8 of the list; what each word of OP 0x21 does. -/
def Obligations.CrcByteAccumulatesCrc8 : Prop :=
  (∀ (b : Byte) (s : State), ∃ t, exec (.crcByte b) s = .next t
      ∧ EndsWith 0#4 { s with crc := crc8Step s.crc b, res0 := (crc8Step s.crc b).setWidth 32 } t)
    ∧ (∀ s : State, ∃ t, exec (.crcByte s.crc) s = .next t ∧ t.crc = 0x00#8)
    ∧ (∀ (bytes : List Byte) (s : State), ∃ observed t,
      runProgram ((crcs bytes).map encode) s = .next (observed, t) ∧ t.crc = crc8 bytes)
    ∧ (∀ (bytes : List Byte) (s : State), s.crc = 0xFF#8 → ∃ observed t,
      runProgram ((bytes.map Instr.crcByte).map encode) s = .next (observed, t) ∧ t.crc = crc8 bytes)
    ∧ WordRuns 0x21#8 (fun arg => decide (arg.toNat < 256)) (fun arg => .crcByte (arg.extractLsb' 0 8))

/-- R134: CRC_WORD gives the crc8 of the word's two bytes, the first one in [15:8], and leaves CRC and VCRC; what each
word of OP 0x22 does. -/
def Obligations.CrcWordGivesTheChecksumOfAWord : Prop :=
  (∀ (w : Half) (s : State), ∃ t, exec (.crcWord w) s = .next t
      ∧ EndsWith 0#4 { s with res0 := (crc8 [w.extractLsb' 8 8, w.extractLsb' 0 8]).setWidth 32 } t)
    ∧ WordRuns 0x22#8 (fun _ => true) (fun arg => .crcWord arg)

/-- CRC_WORD gives in one request what CRC_INIT and two CRC_BYTE give, but leaves CRC as it was (20_memory.md R66). -/
def Obligations.CrcWordAgreesWithTheByteRequests : Prop :=
  ∀ (w : Half) (s : State), ∃ t observed u,
    exec (.crcWord w) s = .next t
      ∧ runProgram ((crcs [w.extractLsb' 8 8, w.extractLsb' 0 8]).map encode) s = .next (observed, u)
      ∧ t.res0 = u.res0 ∧ t.crc = s.crc ∧ u.crc.setWidth 32 = u.res0

/-! ### The validator (42_validator.md) -/

/-- R150: `validate` is Ok exactly when every complete group's checksum matches, and otherwise names the first group
whose checksum does not. -/
def Obligations.ValidateFindsTheFirstBadGroup : Prop :=
  ∀ bytes : List Byte,
    (validate bytes = .ok ↔ ∀ k < bytes.length / 3,
      crc8 [bytes.getD (3 * k) 0#8, bytes.getD (3 * k + 1) 0#8] = bytes.getD (3 * k + 2) 0#8)
    ∧ ∀ k, validate bytes = .checksumError k ↔
      k < bytes.length / 3
        ∧ crc8 [bytes.getD (3 * k) 0#8, bytes.getD (3 * k + 1) 0#8] ≠ bytes.getD (3 * k + 2) 0#8
        ∧ ∀ j < k, crc8 [bytes.getD (3 * j) 0#8, bytes.getD (3 * j + 1) 0#8] = bytes.getD (3 * j + 2) 0#8

/-- R151: a trailing group of 1 or 2 bytes changes no verdict, and a list shorter than 3 bytes is Ok. -/
def Obligations.PartialTrailingGroupIsUnchecked : Prop :=
  (∀ bytes tail : List Byte, bytes.length % 3 = 0 → tail.length < 3 → validate (bytes ++ tail) = validate bytes)
    ∧ ∀ bytes : List Byte, bytes.length < 3 → validate bytes = .ok

/-- The checksum catches every single-bit error in a group (95_test_vectors.md section 3): a 24-bit group is first byte :
second byte : checksum. -/
def Obligations.ChecksumCatchesEverySingleBitError : Prop :=
  ∀ (group : BitVec 24) (bit : Nat), bit < 24 →
    crc8 [group.extractLsb' 16 8, group.extractLsb' 8 8] = group.extractLsb' 0 8 →
    crc8 [(group ^^^ 1#24 <<< bit).extractLsb' 16 8, (group ^^^ 1#24 <<< bit).extractLsb' 8 8]
      ≠ (group ^^^ 1#24 <<< bit).extractLsb' 0 8

/-- R152: VAL_START clears VPOS, CHKERR and VGROUPS, restarts VCRC and FAILGRP, and leaves VHOLD, W0, W1 and the results;
what each word of OP 0x30 does. -/
def Obligations.ValStartBeginsAFreshStream : Prop :=
  (∀ s : State, ∃ t st, exec .valStart s = .next t ∧ StatusReads s.status st 0#4 false 0#2
      ∧ t = { s with status := st, vcrc := 0xFF#8, vgroups := 0#16, failgrp := 0xFFFF#16 })
    ∧ WordRuns 0x30#8 (fun arg => arg == 0#16) (fun _ => .valStart)

/-- R153: VAL_BYTE at each position of a group: the data bytes enter VHOLD and VCRC; the checksum byte captures the word
of groups 0 and 1, counts the group up to saturation, and on the stream's first mismatch sets CHKERR and FAILGRP, with ERR
0 all the same; what each word of OP 0x31 does. -/
def Obligations.ValByteTakesOneByteOfAGroup : Prop :=
  (∀ (b : Byte) (s : State), s.status.extractLsb' 5 2 = 0#2 → ∃ t st, exec (.valByte b) s = .next t
      ∧ StatusReads s.status st 0#4 (s.status.getLsbD 4) 1#2
      ∧ t = { s with status := st, vhold := b ++ s.vhold.extractLsb' 0 8, vcrc := crc8Step 0xFF#8 b })
    ∧ (∀ (b : Byte) (s : State), s.status.extractLsb' 5 2 = 1#2 → ∃ t st, exec (.valByte b) s = .next t
      ∧ StatusReads s.status st 0#4 (s.status.getLsbD 4) 2#2
      ∧ t = { s with status := st, vhold := s.vhold.extractLsb' 8 8 ++ b, vcrc := crc8Step s.vcrc b })
    ∧ (∀ (b : Byte) (s : State), s.status.extractLsb' 5 2 = 2#2 → ∃ t st, exec (.valByte b) s = .next t
      ∧ StatusReads s.status st 0#4 (s.status.getLsbD 4 || b != s.vcrc) 0#2
      ∧ t = { s with
          status := st
          w0 := if s.vgroups = 0#16 then s.vhold else s.w0
          w1 := if s.vgroups = 1#16 then s.vhold else s.w1
          failgrp := if b ≠ s.vcrc ∧ s.status.getLsbD 4 = false then s.vgroups else s.failgrp
          vgroups := if s.vgroups = 0xFFFF#16 then 0xFFFF#16 else s.vgroups + 1#16 })
    ∧ WordRuns 0x31#8 (fun arg => decide (arg.toNat < 256)) (fun arg => .valByte (arg.extractLsb' 0 8))

/-- R154: VAL_CHECK gives VGROUPS where no group of the stream failed and raises CHECKSUM where one did, and reads CHKERR
without clearing it; what each word of OP 0x32 does. -/
def Obligations.ValCheckReportsTheVerdict : Prop :=
  (∀ s : State, s.status.getLsbD 4 = false → ∃ t, exec .valCheck s = .next t
      ∧ EndsWith 0#4 { s with res0 := s.vgroups.setWidth 32 } t)
    ∧ (∀ s : State, s.status.getLsbD 4 = true → ∃ t, exec .valCheck s = .next t ∧ EndsWith 1#4 s t)
    ∧ WordRuns 0x32#8 (fun arg => arg == 0#16) (fun _ => .valCheck)

/-- R155: after VAL_START and any words but VAL_START and RST (malformed ones among them), the validator's registers are
what `validate` and the length say of the bytes that VAL_BYTE took, and VAL_CHECK succeeds exactly when `validate` is Ok. -/
def Obligations.ByteSerialStreamAgreesWithValidate : Prop :=
  ∀ (ws : List Word) (s : State), ws.all keepsStream = true →
    ∃ observed t, runProgram (encode .valStart :: ws) s = .next (observed, t)
      ∧ (t.status.getLsbD 4 = true ↔ ∃ k, validate (streamBytes ws) = .checksumError k)
      ∧ (∀ k, validate (streamBytes ws) = .checksumError k →
          (k < 65535 → t.failgrp.toNat = k) ∧ (65535 ≤ k → t.failgrp = 0xFFFF#16))
      ∧ t.vgroups.toNat = min ((streamBytes ws).length / 3) 65535
      ∧ (t.status.extractLsb' 5 2).toNat = (streamBytes ws).length % 3
      ∧ (3 ≤ (streamBytes ws).length → t.w0 = (streamBytes ws).getD 0 0#8 ++ (streamBytes ws).getD 1 0#8)
      ∧ (6 ≤ (streamBytes ws).length → t.w1 = (streamBytes ws).getD 3 0#8 ++ (streamBytes ws).getD 4 0#8)
      ∧ ∃ u, exec .valCheck t = .next u
          ∧ (u.status.extractLsb' 0 4 = 0#4 ↔ validate (streamBytes ws) = .ok)

/-! ### The converter (43_converter.md) -/

/-- R170, R174: CONV_T gives, bit for bit, the shift and multiply sequence, which is floor(175000 raw / 65536) - 45000 as
a two's-complement value in [-45000, 129997]; what each word of OP 0x40 does. -/
def Obligations.ConvTGivesMilliCelsius : Prop :=
  (∀ (raw : Half) (s : State), ∃ t v, exec (.convT raw) s = .next t ∧ EndsWith 0#4 { s with res0 := v } t
      ∧ v = ((raw.setWidth 32 * 21875#32) >>> 13) - 45000#32
      ∧ v.toInt = 175000 * (raw.toNat : Int) / 65536 - 45000
      ∧ -45000 ≤ v.toInt ∧ v.toInt ≤ 129997)
    ∧ WordRuns 0x40#8 (fun _ => true) (fun arg => .convT arg)

/-- R171, R175: CONV_H gives floor(100000 raw / 65536), in [0, 99998] with bit 31 clear; what each word of OP 0x41 does. -/
def Obligations.ConvHGivesMilliPercent : Prop :=
  (∀ (raw : Half) (s : State), ∃ t v, exec (.convH raw) s = .next t ∧ EndsWith 0#4 { s with res0 := v } t
      ∧ v = (raw.setWidth 32 * 12500#32) >>> 13
      ∧ v.toNat = 100000 * raw.toNat / 65536 ∧ v.toNat ≤ 99998 ∧ v.getLsbD 31 = false)
    ∧ WordRuns 0x41#8 (fun _ => true) (fun arg => .convH arg)

/-- R172, R176: CONV_ID gives bits 5 to 0 and bit 11 of the raw register as a 7-bit value, bit 11 in bit 6, and ignores
the other bits; what each word of OP 0x42 does. -/
def Obligations.ConvIdGivesTheSevenIdentifierBits : Prop :=
  (∀ (raw : Half) (s : State), ∃ t v, exec (.convId raw) s = .next t ∧ EndsWith 0#4 { s with res0 := v } t
      ∧ v.toNat < 128 ∧ v.getLsbD 6 = raw.getLsbD 11 ∧ ∀ i < 6, v.getLsbD i = raw.getLsbD i)
    ∧ WordRuns 0x42#8 (fun _ => true) (fun arg => .convId arg)

/-- R173 and 95_test_vectors.md section 3: both conversions are strictly increasing, by 2 or 3 and by 1 or 2 a code, between
the end points the rule names. -/
def Obligations.ConversionsAreStrictlyIncreasing : Prop :=
  (convT 0#16).toInt = -45000 ∧ (convT 0xFFFF#16).toInt = 129997
    ∧ (convH 0#16).toNat = 0 ∧ (convH 0xFFFF#16).toNat = 99998
    ∧ (∀ a b : Half, a.toNat < b.toNat →
      (convT a).toInt < (convT b).toInt ∧ 0 ≤ (convH a).toInt ∧ (convH a).toInt < (convH b).toInt)
    ∧ ∀ a : Half, a.toNat < 65535 →
      ((convT (a + 1#16)).toInt - (convT a).toInt = 2 ∨ (convT (a + 1#16)).toInt - (convT a).toInt = 3)
        ∧ ((convH (a + 1#16)).toInt - (convH a).toInt = 1 ∨ (convH (a + 1#16)).toInt - (convH a).toInt = 2)

/-- R178: the gate of the four measurement requests: CHECKSUM where the stream has a failed group, else NO_DATA where it
has too few complete groups (1, or 2 for MEAS_TH), else the request succeeds. -/
def Obligations.MeasurementGateTestsChecksumThenData : Prop :=
  ∀ s : State, ∀ e ∈ [(Instr.measT, 1), (.measH, 1), (.measId, 1), (.measTh .temperatureFirst, 2),
      (.measTh .humidityFirst, 2)],
    ∃ t, exec e.1 s = .next t
      ∧ (if s.status.getLsbD 4 = true then EndsWith 1#4 s t
        else if s.vgroups.toNat < e.2 then EndsWith 5#4 s t
        else t.status.extractLsb' 0 4 = 0#4)

/-- R179, R180, R181: on a stream with a complete group and none failed, MEAS_T, MEAS_H and MEAS_ID do to W0 what CONV_T,
CONV_H and CONV_ID do to their operand; otherwise they raise CHECKSUM, or else NO_DATA; what each word of OP 0x48, 0x49 and
0x4A does. -/
def Obligations.SingleMeasurementsConvertTheFirstWord : Prop :=
  (∀ s : State, s.status.getLsbD 4 = false → 1 ≤ s.vgroups.toNat →
      (∃ t, exec .measT s = .next t ∧ exec (.convT s.w0) s = .next t ∧ EndsWith 0#4 { s with res0 := convT s.w0 } t)
        ∧ (∃ t, exec .measH s = .next t ∧ exec (.convH s.w0) s = .next t
          ∧ EndsWith 0#4 { s with res0 := convH s.w0 } t)
        ∧ ∃ t, exec .measId s = .next t ∧ exec (.convId s.w0) s = .next t
          ∧ EndsWith 0#4 { s with res0 := (s.w0.extractLsb' 11 1 ++ s.w0.extractLsb' 0 6).setWidth 32 } t)
    ∧ (∀ s : State, s.status.getLsbD 4 = true → ∀ i ∈ [Instr.measT, .measH, .measId],
      ∃ t, exec i s = .next t ∧ EndsWith 1#4 s t)
    ∧ (∀ s : State, s.status.getLsbD 4 = false → s.vgroups = 0#16 → ∀ i ∈ [Instr.measT, .measH, .measId],
      ∃ t, exec i s = .next t ∧ EndsWith 5#4 s t)
    ∧ WordRuns 0x48#8 (fun arg => arg == 0#16) (fun _ => .measT)
    ∧ WordRuns 0x49#8 (fun arg => arg == 0#16) (fun _ => .measH)
    ∧ WordRuns 0x4A#8 (fun arg => arg == 0#16) (fun _ => .measId)

/-- R182: on a stream with two complete groups and none failed, MEAS_TH writes the temperature to RES0 and the humidity to
RES1 together, from W0 and W1 by the order; otherwise it writes neither; what each word of OP 0x4B does. -/
def Obligations.MeasThWritesBothResultsOrNeither : Prop :=
  (∀ s : State, s.status.getLsbD 4 = false → 2 ≤ s.vgroups.toNat →
      (∃ t, exec (.measTh .temperatureFirst) s = .next t
          ∧ EndsWith 0#4 { s with res0 := convT s.w0, res1 := convH s.w1 } t)
        ∧ ∃ t, exec (.measTh .humidityFirst) s = .next t
          ∧ EndsWith 0#4 { s with res0 := convT s.w1, res1 := convH s.w0 } t)
    ∧ (∀ (s : State) (ord : Order), s.status.getLsbD 4 = true →
      ∃ t, exec (.measTh ord) s = .next t ∧ EndsWith 1#4 s t)
    ∧ (∀ (s : State) (ord : Order), s.status.getLsbD 4 = false → s.vgroups.toNat < 2 →
      ∃ t, exec (.measTh ord) s = .next t ∧ EndsWith 5#4 s t)
    ∧ WordRuns 0x4B#8 (fun arg => decide (arg.toNat < 2))
      (fun arg => .measTh (if arg = 1#16 then .humidityFirst else .temperatureFirst))

/-- THE STREAM INVARIANT (R153, R155): a state that agrees with a stream's bytes agrees, after any word but VAL_START and
RST, with those bytes and the one that a VAL_BYTE took. -/
def Obligations.EveryStepKeepsStreamAgreement : Prop :=
  ∀ (bytes : List Byte) (w : Word) (s t : State), StreamAgrees bytes s → keepsStream w = true →
    step (present w s) = .next t → StreamAgrees (bytes ++ streamBytes [w]) t

/-- VAL_START leaves a state that agrees with the empty stream, from every state, and so do power-on reset and RST, with
which a host may begin too (R152, R260). -/
def Obligations.FreshValidatorAgreesWithTheEmptyStream : Prop :=
  (∀ s : State, ∃ t, exec .valStart s = .next t ∧ StreamAgrees [] t)
    ∧ (∀ s : State, ∃ t, exec .rst s = .next t ∧ StreamAgrees [] t)
    ∧ ∀ p : Config.Params, StreamAgrees [] (State.resetWith p)

/-- A measurement is only ever constructed from a validated stream (R177): after VAL_START and the bytes of a response, each
of the five MEAS requests succeeds exactly when the response validates and has the groups it needs (one, or two for
MEAS_TH), and then its results are the conversions of the response's own words; RES1 is MEAS_TH's alone. -/
def Obligations.MeasurementsComeOnlyFromValidatedStreams : Prop :=
  ∀ (bytes : List Byte) (s : State),
    ∀ e ∈ [(Instr.measT, 1, convT (groupWord bytes 0), s.res1), (.measH, 1, convH (groupWord bytes 0), s.res1),
        (.measId, 1, ((groupWord bytes 0).extractLsb' 11 1 ++ (groupWord bytes 0).extractLsb' 0 6).setWidth 32, s.res1),
        (.measTh .temperatureFirst, 2, convT (groupWord bytes 0), convH (groupWord bytes 1)),
        (.measTh .humidityFirst, 2, convT (groupWord bytes 1), convH (groupWord bytes 0))],
      ∃ observed t,
        runProgram ((Instr.valStart :: feed bytes ++ [e.1]).map encode) s = .next (observed, t)
          ∧ (t.status.extractLsb' 0 4 = 0#4 ↔ validate bytes = .ok ∧ e.2.1 ≤ bytes.length / 3)
          ∧ (t.status.extractLsb' 0 4 = 0#4 → t.res0 = e.2.2.1 ∧ t.res1 = e.2.2.2)
          ∧ (t.status.extractLsb' 0 4 ≠ 0#4 → t.res0 = s.res0 ∧ t.res1 = s.res1)

/-- What a stream's measurement answers does not depend on the state before its VAL_START, so no word of an earlier
stream is converted (R178): two runs of one stream from any two states agree on ERR, and on the results where it is 0. -/
def Obligations.FreshStreamHidesTheStateBefore : Prop :=
  ∀ (bytes : List Byte) (s s' : State),
    ∀ i ∈ [Instr.measT, .measH, .measId, .measTh .temperatureFirst, .measTh .humidityFirst],
      ∃ observed t observed' t',
        runProgram ((Instr.valStart :: feed bytes ++ [i]).map encode) s = .next (observed, t)
          ∧ runProgram ((Instr.valStart :: feed bytes ++ [i]).map encode) s' = .next (observed', t')
          ∧ t.status.extractLsb' 0 4 = t'.status.extractLsb' 0 4
          ∧ (t.status.extractLsb' 0 4 = 0#4 → t.res0 = t'.res0
            ∧ (opcodeOfInstr i = .measTh → t.res1 = t'.res1))

/-! ### The sensor profile (44_profile.md) -/

/-- The profile rows (R34, R35): each family's own parameters, and for the generic profile the pointwise maximum with the
sleep capability, whatever the parameters. The defaults that the model takes for the parameters (R6 to R10), which the spec
marks as general knowledge, are log 2's (PRESUMED), and no other statement rests on one; the last clause is the default of
the host's bus address (R12). -/
def Obligations.ProfileRowsFollowTheParameters : Prop :=
  (∀ s : State,
      (s.profSel = 0#2 → activeProfile s = ⟨s.params.durG1Normal, s.params.durG1Lp, s.params.capG1⟩)
        ∧ (s.profSel = 1#2 → activeProfile s = ⟨s.params.durG2Normal, s.params.durG2Lp, s.params.capG2⟩)
        ∧ (s.profSel = 2#2 →
          (activeProfile s).durNormal.toNat = max s.params.durG1Normal.toNat s.params.durG2Normal.toNat
            ∧ (activeProfile s).durLp.toNat = max s.params.durG1Lp.toNat s.params.durG2Lp.toNat
            ∧ (activeProfile s).sleepCap = true))
    ∧ Config.defaultParams = ⟨14400#16, 940#16, 12100#16, 800#16, false, true⟩
    ∧ Config.defaultDevAddr = 0x70#8

/-- R200: PROF_SET writes PROF_SEL, which the next request sees; PSEL = 3 raises ILLEGAL_ARG and leaves it; what each word
of OP 0x50 does. -/
def Obligations.ProfSetSelectsTheProfile : Prop :=
  (∀ (psel : BitVec 2) (s : State), psel ≠ 3#2 →
      ∃ t, exec (.profSet psel) s = .next t ∧ EndsWith 0#4 { s with profSel := psel } t
        ∧ activeProfile t = profileRow s.params psel)
    ∧ (∀ s : State, ∃ t, exec (.profSet 3#2) s = .next t ∧ EndsWith 4#4 s t)
    ∧ WordRuns 0x50#8 (fun arg => decide (arg.toNat < 3)) (fun arg => .profSet (arg.extractLsb' 0 2))

/-- R201: PROF_DUR gives the active profile's duration for the mode, zero-extended; what each word of OP 0x51 does. -/
def Obligations.ProfDurGivesTheActiveDuration : Prop :=
  (∀ s : State,
      (∃ t, exec (.profDur .normal) s = .next t
          ∧ EndsWith 0#4 { s with res0 := (activeProfile s).durNormal.setWidth 32 } t)
        ∧ ∃ t, exec (.profDur .lowPower) s = .next t
          ∧ EndsWith 0#4 { s with res0 := (activeProfile s).durLp.setWidth 32 } t)
    ∧ WordRuns 0x51#8 (fun arg => decide (arg.toNat < 2))
      (fun arg => .profDur (if arg = 1#16 then .lowPower else .normal))

/-! ### Encoding (30_encoding.md) -/

/-- A few words written out from 30_encoding.md R81 to R83 decode to the requests they stand for. -/
def Obligations.WrittenWordsDecode : Prop :=
  decode 0x00000000#32 = .ok .nop ∧ decode 0x0200000B#32 = .ok (.regRd 0xB#4)
    ∧ decode 0x10000008#32 = .ok (.enc 0x8#4) ∧ decode 0x210000BE#32 = .ok (.crcByte 0xBE#8)
    ∧ decode 0x310000C7#32 = .ok (.valByte 0xC7#8) ∧ decode 0x4000648B#32 = .ok (.convT 0x648B#16)
    ∧ decode 0x4B000001#32 = .ok (.measTh .humidityFirst) ∧ decode 0x51000001#32 = .ok (.profDur .lowPower)

/-- DECODE AND ENCODE AGREE: the word of every request, with every operand at every value its field admits (reserved
values among them), decodes to that request. -/
def Obligations.DecodeOfEncodeIsTheRequest : Prop := ∀ i : Instr, decode (encode i) = .ok i

/-- A word decodes to a request exactly when it matches a row of spec/opcode_table.json; no word matches two rows; and the
request it decodes to is of that row and encodes to that word, so no two words are one request. -/
def Obligations.DecodingFollowsTheOpcodeTable : Prop :=
  (∀ w : Word, (∃ i, decode w = .ok i) ↔ ∃ o, w &&& rowMask o = rowMatch o)
    ∧ (∀ (w : Word) (o o' : Opcode), w &&& rowMask o = rowMatch o → w &&& rowMask o' = rowMatch o' → o = o')
    ∧ ∀ (w : Word) (i : Instr), decode w = .ok i →
      w &&& rowMask (opcodeOfInstr i) = rowMatch (opcodeOfInstr i) ∧ encode i = w

/-- R84: every reserved OP raises ILLEGAL_OP and changes nothing else, whatever RSV and ARG; and the all-zero word, NOP,
is the only word that changes nothing but clearing ERR in every state. -/
def Obligations.ReservedOpcodesRaiseIllegalOp : Prop :=
  (∀ (op rsv : Byte) (arg : Half) (s : State),
      (0x03 ≤ op.toNat ∧ op.toNat ≤ 0x0F) ∨ (0x12 ≤ op.toNat ∧ op.toNat ≤ 0x1F)
        ∨ (0x23 ≤ op.toNat ∧ op.toNat ≤ 0x2F) ∨ (0x33 ≤ op.toNat ∧ op.toNat ≤ 0x3F)
        ∨ (0x43 ≤ op.toNat ∧ op.toNat ≤ 0x47) ∨ (0x4C ≤ op.toNat ∧ op.toNat ≤ 0x4F) ∨ 0x52 ≤ op.toNat →
      ∃ t, step (present (op ++ rsv ++ arg) s) = .next t ∧ EndsWith 3#4 s t)
    ∧ ∀ w : Word, (∀ s : State, ∃ t, step (present w s) = .next t ∧ EndsWith 0#4 s t) → w = 0x00000000#32

/-- R88: every word, in order: ILLEGAL_OP for a nonzero RSV or an OP of no row; else ILLEGAL_ARG for a word that no row
matches (a must-be-zero bit is 1) or whose request holds a reserved field value; else the request performs. -/
def Obligations.EveryWordIsDecodedInOrder : Prop :=
  ∀ (w : Word) (s : State),
    if w.extractLsb' 16 8 ≠ 0#8 ∨ ∀ o ∈ allOpcodes, (rowMatch o).extractLsb' 24 8 ≠ w.extractLsb' 24 8 then
      ∃ t, step (present w s) = .next t ∧ EndsWith 3#4 s t
    else if ∀ o ∈ allOpcodes, w &&& rowMask o ≠ rowMatch o then
      ∃ t, step (present w s) = .next t ∧ EndsWith 4#4 s t
    else ∃ i, decode w = .ok i ∧ step (present w s) = exec i s
      ∧ (wellFormed i = false → ∃ t, exec i s = .next t ∧ EndsWith 4#4 s t)

/-- A request that holds a reserved field value (SEL 0x4 to 0x7, REG 0xE and 0xF, PSEL 3) raises ILLEGAL_ARG and changes
nothing else (R85). -/
def Obligations.ReservedFieldValuesRaiseIllegalArg : Prop :=
  ∀ (i : Instr) (s : State), wellFormed i = false → ∃ t, exec i s = .next t ∧ EndsWith 4#4 s t

/-! ### The machine -/

/-- A STEP RUNS THE DECODED REQUEST (20_memory.md R63): the word at the port is taken, and the step is the meaning of the
well-formed request it decodes to, on the state with the word taken and nothing else changed. That the words the host
presents stand in `requests` is the model's form of the request port (log 1). -/
def Obligations.StepRunsTheDecodedRequest : Prop :=
  ∀ (w : Word) (rest : List Word) (i : Instr) (s : State), s.requests = w :: rest → decode w = .ok i →
    wellFormed i = true → step s = exec i { s with requests := rest }

/-- THE MODEL'S CHOICE (log 1): while the host presents no request, a step leaves the block as it is. The spec has no step
without a request. -/
def Obligations.IdleBlockKeepsItsState : Prop := ∀ s : State, s.requests = [] → step s = .next s

/-- A run of any list of words, from any state, never stops early, and is what the machine does in as many steps when the
host presents those words (R273); what it observes after each word is that word's response: RES0, RES1, and STATUS with its
reserved bits zero, of the state after that word (R80, R22). That the words stand at the port is the model's form of the
host (log 1). -/
def Obligations.RunsNeverStopAndAreSteps : Prop :=
  ∀ (ws : List Word) (s : State), ∃ observed t, runProgram ws s = .next (observed, t)
    ∧ observed.length = ws.length
    ∧ Host.Core.run Sys2Proof.core ws.length ({ s with requests := ws ++ s.requests } : State) = .next t
    ∧ ∀ k < ws.length, ∃ u : State,
      Host.Core.run Sys2Proof.core (k + 1) ({ s with requests := ws ++ s.requests } : State) = .next u
        ∧ observed[k]? = some (u.res0, u.res1, 0#9 ++ u.status.extractLsb' 0 7)

/-- No step of the block stops, and a word whose outcome is an error changed ERR and nothing else (R232). In the first
clause, that a step answers a next state where no request is presented is log 1's choice, and that no step is a fault or a
refusal is log 7's (DEDUCED). -/
def Obligations.ErrorsArePreciseAndNeverStopTheBlock : Prop :=
  (∀ s : State, ∃ t, step s = .next t)
    ∧ ∀ (w : Word) (s t : State), step (present w s) = .next t → t.status.extractLsb' 0 4 ≠ 0#4 →
      EndsWith (t.status.extractLsb' 0 4) s t

/-- R230: which outcome code a word can give, who gives it, and why; no code above 5. -/
def Obligations.ErrorCodesHaveTheirCauses : Prop :=
  ∀ (w : Word) (s t : State), step (present w s) = .next t →
    (t.status.extractLsb' 0 4).toNat ≤ 5
      ∧ (t.status.extractLsb' 0 4 = 1#4 → s.status.getLsbD 4 = true
        ∧ ∃ i, decode w = .ok i ∧ opcodeOfInstr i ∈ [Opcode.valCheck, .measT, .measH, .measId, .measTh])
      ∧ (t.status.extractLsb' 0 4 = 2#4 → (activeProfile s).sleepCap = false
        ∧ (decode w = .ok (.encChk 0x0#4) ∨ decode w = .ok (.encChk 0x1#4)))
      ∧ (t.status.extractLsb' 0 4 = 3#4 → decode w = .error .illegalOp)
      ∧ (t.status.extractLsb' 0 4 = 4#4 →
        decode w = .error .illegalArg ∨ ∃ i, decode w = .ok i ∧ wellFormed i = false)
      ∧ (t.status.extractLsb' 0 4 = 5#4 → s.status.getLsbD 4 = false
        ∧ ∃ i, decode w = .ok i
          ∧ (opcodeOfInstr i ∈ [Opcode.measT, .measH, .measId] ∧ s.vgroups.toNat < 1
            ∨ opcodeOfInstr i = .measTh ∧ s.vgroups.toNat < 2))

/-- R24: CHKERR is 0 at reset; only a VAL_BYTE past a group's two data bytes with a mismatch sets it; only VAL_START and
RST clear it. -/
def Obligations.ChkerrIsSticky : Prop :=
  (∀ p : Config.Params, (State.resetWith p).status.getLsbD 4 = false)
    ∧ (∀ (w : Word) (s t : State), step (present w s) = .next t → s.status.getLsbD 4 = false →
      t.status.getLsbD 4 = true → ∃ b, decode w = .ok (.valByte b) ∧ b ≠ s.vcrc
        ∧ s.status.extractLsb' 5 2 ≠ 0#2 ∧ s.status.extractLsb' 5 2 ≠ 1#2)
    ∧ ∀ (w : Word) (s t : State), step (present w s) = .next t → s.status.getLsbD 4 = true →
      (t.status.getLsbD 4 = false ↔ decode w = .ok .valStart ∨ decode w = .ok .rst)

/-- Which requests write each register (R20, the column `access` of R38, and R28, R32 for VHOLD and RES0), and that none writes
the parameters (R69), the model's own field (log 2). The last clause is the model's choice: the host's remaining requests are
the model's own field too (log 1), and that no request writes them is DEDUCED; for RST, log 10 says both of these. -/
def Obligations.RegistersAreWrittenOnlyByTheirRequests : Prop :=
  ∀ (i : Instr) (s t : State), exec i s = .next t →
    (t.crc ≠ s.crc → opcodeOfInstr i ∈ [Opcode.rst, .crcInit, .crcByte])
      ∧ (t.vcrc ≠ s.vcrc → opcodeOfInstr i ∈ [Opcode.rst, .valStart, .valByte])
      ∧ (t.vgroups ≠ s.vgroups → opcodeOfInstr i ∈ [Opcode.rst, .valStart, .valByte])
      ∧ (t.failgrp ≠ s.failgrp → opcodeOfInstr i ∈ [Opcode.rst, .valStart, .valByte])
      ∧ (t.vhold ≠ s.vhold → opcodeOfInstr i ∈ [Opcode.rst, .valByte])
      ∧ (t.w0 ≠ s.w0 → opcodeOfInstr i ∈ [Opcode.rst, .valByte])
      ∧ (t.w1 ≠ s.w1 → opcodeOfInstr i ∈ [Opcode.rst, .valByte])
      ∧ (t.profSel ≠ s.profSel → opcodeOfInstr i ∈ [Opcode.rst, .profSet])
      ∧ (t.res1 ≠ s.res1 → opcodeOfInstr i ∈ [Opcode.rst, .measTh])
      ∧ (t.res0 ≠ s.res0 → opcodeOfInstr i ∉ [Opcode.nop, .crcInit, .valStart, .valByte, .profSet])
      ∧ (t.status.extractLsb' 5 2 ≠ s.status.extractLsb' 5 2 →
        opcodeOfInstr i ∈ [Opcode.rst, .valStart, .valByte])
      ∧ t.params = s.params ∧ t.requests = s.requests

/-- No step changes the build-time parameters, and the profile views change only when PROF_SEL does (20_memory.md R69,
10_state.md R36). The parameters are the model's own field (log 2); that a step without a request changes nothing is log 1's
choice, and that RST keeps the parameters is DEDUCED (log 10). -/
def Obligations.BuildTimeConstantsNeverChange : Prop :=
  ∀ s t : State, step s = .next t →
    t.params = s.params ∧ (t.profSel = s.profSel → activeProfile t = activeProfile s)

/-- The invariant holds right after reset, whatever the parameters. -/
def Obligations.ResetStateIsOk : Prop := (∀ p : Config.Params, StateOk (State.resetWith p)) ∧ StateOk State.reset

/-- AN INVARIANT THAT EVERY STEP KEEPS, whatever word is presented: STATUS legal, FAILGRP and VCRC what the stream says,
PROF_SEL never 3, RES1 within the humidity's range. That a step without a request keeps it rests on log 1's choice. -/
def Obligations.EveryStepKeepsStateOk : Prop := ∀ s t : State, StateOk s → step s = .next t → StateOk t

/-! ### The host's side (70_reset_and_hazards.md) -/

/-- On a profile without the sleep capability the operations sleep() and wakeup() end with UNSUPPORTED: nothing is sent,
no outcome is drawn, and the sensor's power state, with what a settle wait would make of it, is as it was (R270; the environment is the model's form of the host's
side, log 8). -/
def Obligations.SleepWithoutCapabilitySendsNothing : Prop :=
  ∀ env : Env, (activeProfile env.block).sleepCap = false → ∀ op ∈ [HostOp.sleep, HostOp.wakeup],
    (runOp op env).1 = .blockError 2#4 ∧ (runOp op env).2.written = env.written
      ∧ (runOp op env).2.draws = env.draws ∧ (runOp op env).2.power = env.power
      ∧ (runOp op env).2.powerSettled = env.powerSettled

/-- sleep() and wakeup() that end Ok leave the sensor Sleeping and Idle, with no settle wait owed (R264, R270), when the settle
wait has elapsed before they start: sleep() on an Idle sensor that has the capability, wakeup() on any. Where the write is
answered without an error and the active profile has the capability they do end Ok, and what was written is the Command's
opcode at the host's address (R115). The environment is the model's form of the host's side (log 8). THE MODEL'S CHOICES
(log 11): that this holds with a measurement wait still owed too, where the spec leaves a command's outcome open, and of a
WakeUp right after a Sleep, where the source gives no wait (DESIGN CHOICE both); and that an Idle sensor stays Idle on a
WakeUp (DEDUCED from R270). -/
def Obligations.SleepAndWakeUpMoveTheSensor : Prop :=
  ∀ env : Env, env.settleOwed = 0 →
    ((runOp .wakeup env).1 = .ok → (runOp .wakeup env).2.power = .idle ∧ (runOp .wakeup env).2.settleOwed = 0)
      ∧ (env.power = .idle → env.sensorCanSleep = true → (runOp .sleep env).1 = .ok →
        (runOp .sleep env).2.power = .sleeping ∧ (runOp .sleep env).2.settleOwed = 0)
      ∧ ∀ (d : Draw) (rest : List Draw), (activeProfile env.block).sleepCap = true → env.draws = d :: rest →
        d.busError = none →
          (runOp .wakeup env).1 = .ok ∧ (runOp .sleep env).1 = .ok
            ∧ (runOp .wakeup env).2.written = (env.devAddr, 0x35#8, 0x17#8) :: env.written
            ∧ (runOp .sleep env).2.written = (env.devAddr, 0xB0#8, 0x98#8) :: env.written

/-- Where a WakeUp is written without an error to a sleeping sensor, the sensor is Idle after any wait of 240 microseconds or
more (R264: "then waiting 240 µs"). The other direction is the model's choice: that it is not Idle after a shorter wait is
log 11's reading of R264 (DEDUCED), and so is that both hold with a measurement wait still owed and right after a Sleep
(DESIGN CHOICE, log 11). The environment is the model's form of the host's side (log 8). -/
def Obligations.WakeUpTakesTheSettleWait : Prop :=
  ∀ (env : Env) (d : Draw) (rest : List Draw) (us : Nat), env.power = .sleeping → env.settleOwed = 0 →
    env.draws = d :: rest → d.busError = none →
      ((hostWait us (transportWrite 0x35#8 0x17#8 env).2).power = .idle ↔ 240 ≤ us)

/-- The source's operations as R270 lists them keep the host's obligations of R265 to R269, whatever the transport and the
sensor answer, when started with nothing owed and no operation in flight, on a sensor that is awake (wakeup() also on a
sleeping one); they leave no operation in flight, and one that ends Ok leaves nothing owed. The record of breaches and the
list of draws, whose end is `undrawn`, are the model's own form of those rules (log 8), and when an operation is in flight is log 11's reading (DEDUCED). -/
def Obligations.HostOperationsKeepTheirObligations : Prop :=
  ∀ (op : HostOp) (env : Env), env.settleOwed = 0 → env.measureOwed = 0 → env.inFlight = [] →
    (env.power = .idle ∨ op = .wakeup) →
      (runOp op env).2.breaches = env.breaches
        ∧ ((runOp op env).1 ≠ .undrawn → (runOp op env).2.inFlight = [])
        ∧ ((runOp op env).1 = .ok → (runOp op env).2.settleOwed = 0 ∧ (runOp op env).2.measureOwed = 0)

/-- One transaction at a time (R268), in the model's form of the host's side (log 8). Each operation makes at most one write,
one wait and one read. A command while an operation is in flight is recorded as a breach, but for a SoftwareReset to a sensor
that is not asleep (R265; log 11). With at most one operation in flight, the second of two reads is recorded as one. -/
def Obligations.OneTransactionAtATime : Prop :=
  (∀ op : HostOp, writeCount op ≤ 1 ∧ waitCount op ≤ 1 ∧ readCount op ≤ 1)
    ∧ (∀ (first second : Byte) (env : Env), env.inFlight ≠ [] →
      (env.power = .sleeping ∨ first ++ second ≠ 0x805D#16) → (transportWrite first second env).1 ≠ .undrawn →
        Breach.overlappingCommand ∈ (transportWrite first second env).2.breaches)
    ∧ ∀ (n m : Nat) (env : Env), env.inFlight.length ≤ 1 → (transportRead n env).1 ≠ .undrawn →
      (transportRead m (transportRead n env).2).1 ≠ .undrawn →
        Breach.readOutsideOperation ∈ (transportRead m (transportRead n env).2).2.breaches

/-- measure(mode) of R270, where the transport answers the write and then a read of six bytes: it ends Ok with the
temperature and humidity of the response where both checksums match, and with CHECKSUM where one does not (the drawn
transport is the model's form of the environment, log 8). -/
def Obligations.MeasureOperationConvertsTheResponse : Prop :=
  ∀ (env : Env) (mode : PowerMode) (d d' : Draw) (a b c a' b' c' : Byte) (rest : List Draw),
    env.draws = d :: d' :: rest → d.busError = none → d'.busError = none → d'.bytes = [a, b, c, a', b', c'] →
      if crc8 [a, b] = c ∧ crc8 [a', b'] = c' then
        (runOp (.measure mode) env).1 = .ok ∧ (runOp (.measure mode) env).2.block.res0 = convT (a ++ b)
          ∧ (runOp (.measure mode) env).2.block.res1 = convH (a' ++ b')
      else (runOp (.measure mode) env).1 = .blockError 1#4
end

