-- ==== Sys2Proof/Laws/Decode.lean ====
section
/-! SUPPORT. The fields of a word put together from its fields, the opcode map both ways, and all that `decode` can
answer. -/

namespace Sys2Proof

@[simp] theorem opField_append (op rsv : Byte) (arg : Half) : opField (op ++ rsv ++ arg) = op := by
  unfold opField; ext i hi; simp; grind

@[simp] theorem rsvField_append (op rsv : Byte) (arg : Half) : rsvField (op ++ rsv ++ arg) = rsv := by
  unfold rsvField; ext i hi; simp; grind

@[simp] theorem argField_append (op rsv : Byte) (arg : Half) : argField (op ++ rsv ++ arg) = arg := by
  unfold argField; ext i hi; simp; grind

/-- A word is its three fields (30_encoding.md R81). -/
theorem word_eq_fields (w : Word) : w = opField w ++ rsvField w ++ argField w := by
  ext i hi; simp [opField, rsvField, argField]; grind

@[simp] theorem opcodeOf_opBits (o : Opcode) : opcodeOf (opBits o) = some o := by cases o <;> decide

theorem opBits_of_opcodeOf {op : Byte} {o : Opcode} (h : opcodeOf op = some o) : opBits o = op := by
  simpa using List.find?_some h

theorem mem_allOpcodes (o : Opcode) : o ∈ allOpcodes := by cases o <;> decide

/-- `decode` on the fields of a word (30_encoding.md R88). -/
theorem decode_append (op rsv : Byte) (arg : Half) :
    decode (op ++ rsv ++ arg) =
      if rsv ≠ 0#8 then .error .illegalOp
      else match opcodeOf op with
        | none => .error .illegalOp
        | some o => if arg &&& mustBeZero (formatOf o) ≠ 0#16 then .error .illegalArg else .ok (requestOf o arg) := by
  have h := decode.eq_1 (op ++ rsv ++ arg)
  rw [opField_append, rsvField_append, argField_append] at h
  exact h

/-- All that `decode` can answer, and when. -/
theorem decode_cases (w : Word) :
    (decode w = .error .illegalOp ∧ (rsvField w ≠ 0#8 ∨ opcodeOf (opField w) = none))
      ∨ ∃ o, rsvField w = 0#8 ∧ opcodeOf (opField w) = some o
        ∧ ((decode w = .error .illegalArg ∧ argField w &&& mustBeZero (formatOf o) ≠ 0#16)
          ∨ (decode w = .ok (requestOf o (argField w)) ∧ argField w &&& mustBeZero (formatOf o) = 0#16)) := by
  unfold decode
  by_cases hrsv : rsvField w = 0#8
  · cases hop : opcodeOf (opField w) with
    | none => exact .inl (by simp [hrsv])
    | some o =>
      refine .inr ⟨o, hrsv, rfl, ?_⟩
      by_cases harg : argField w &&& mustBeZero (formatOf o) = 0#16
      · exact .inr (by simp [hrsv, harg])
      · exact .inl (by simp [hrsv, harg])
  · exact .inl (by simp [hrsv])

/-- The opcode of the request an opcode names. -/
@[simp] theorem opcodeOfInstr_requestOf (o : Opcode) (arg : Half) : opcodeOfInstr (requestOf o arg) = o := by
  cases o <;> rfl

@[simp] theorem orderOfBit_orderBit (ord : Order) : orderOfBit (orderBit ord) = ord := by cases ord <;> decide

@[simp] theorem modeOfBit_modeBit (mode : PowerMode) : modeOfBit (modeBit mode) = mode := by cases mode <;> decide

end Sys2Proof
end

