-- ==== Sys2Proof/Laws/Environment.lean ====
section
/-! SUPPORT. The fields of the environment after each of its operations, and what each operation can do, said once. -/

namespace Sys2Proof.Machine

/-! ### The waits owed -/

@[simp] theorem oweWaits_block (c : Option Command) (env : Env) : (oweWaits c env).block = env.block := rfl
@[simp] theorem oweWaits_devAddr (c : Option Command) (env : Env) : (oweWaits c env).devAddr = env.devAddr := rfl
@[simp] theorem oweWaits_power (c : Option Command) (env : Env) : (oweWaits c env).power = env.power := rfl
@[simp] theorem oweWaits_draws (c : Option Command) (env : Env) : (oweWaits c env).draws = env.draws := rfl
@[simp] theorem oweWaits_written (c : Option Command) (env : Env) : (oweWaits c env).written = env.written := rfl
@[simp] theorem oweWaits_breaches (c : Option Command) (env : Env) : (oweWaits c env).breaches = env.breaches := rfl
@[simp] theorem oweWaits_inFlight (c : Option Command) (env : Env) : (oweWaits c env).inFlight = env.inFlight := rfl
@[simp] theorem oweWaits_responses (c : Option Command) (env : Env) : (oweWaits c env).responses = env.responses := rfl
@[simp] theorem oweWaits_fresh (c : Option Command) (env : Env) : (oweWaits c env).fresh = env.fresh := rfl

/-! ### A request to the block -/

/-- All that a request can do: the block answers a next state, and of the rest only `fresh` moves. -/
theorem hostRequest_of_next {i : Instr} {env : Env} {t : State} (h : perform (encode i) env.block = .next t) :
    hostRequest i env = { env with block := t, fresh := freshAfter env.fresh i } := by
  unfold hostRequest; rw [h]

@[simp] theorem hostRequest_devAddr (i : Instr) (env : Env) : (hostRequest i env).devAddr = env.devAddr := by
  unfold hostRequest; split <;> rfl
@[simp] theorem hostRequest_power (i : Instr) (env : Env) : (hostRequest i env).power = env.power := by
  unfold hostRequest; split <;> rfl
@[simp] theorem hostRequest_powerSettled (i : Instr) (env : Env) :
    (hostRequest i env).powerSettled = env.powerSettled := by unfold hostRequest; split <;> rfl
@[simp] theorem hostRequest_sensorCanSleep (i : Instr) (env : Env) :
    (hostRequest i env).sensorCanSleep = env.sensorCanSleep := by unfold hostRequest; split <;> rfl
@[simp] theorem hostRequest_settleOwed (i : Instr) (env : Env) : (hostRequest i env).settleOwed = env.settleOwed := by
  unfold hostRequest; split <;> rfl
@[simp] theorem hostRequest_measureOwed (i : Instr) (env : Env) : (hostRequest i env).measureOwed = env.measureOwed := by
  unfold hostRequest; split <;> rfl
@[simp] theorem hostRequest_inFlight (i : Instr) (env : Env) : (hostRequest i env).inFlight = env.inFlight := by
  unfold hostRequest; split <;> rfl
@[simp] theorem hostRequest_responses (i : Instr) (env : Env) : (hostRequest i env).responses = env.responses := by
  unfold hostRequest; split <;> rfl
@[simp] theorem hostRequest_draws (i : Instr) (env : Env) : (hostRequest i env).draws = env.draws := by
  unfold hostRequest; split <;> rfl
@[simp] theorem hostRequest_written (i : Instr) (env : Env) : (hostRequest i env).written = env.written := by
  unfold hostRequest; split <;> rfl
@[simp] theorem hostRequest_breaches (i : Instr) (env : Env) : (hostRequest i env).breaches = env.breaches := by
  unfold hostRequest; split <;> rfl

/-! ### Waiting -/

@[simp] theorem hostWait_block (us : Nat) (env : Env) : (hostWait us env).block = env.block := by
  unfold hostWait; dsimp only; split <;> rfl
@[simp] theorem hostWait_settleOwed (us : Nat) (env : Env) : (hostWait us env).settleOwed = env.settleOwed - us := by
  unfold hostWait; dsimp only; split <;> rfl
@[simp] theorem hostWait_measureOwed (us : Nat) (env : Env) : (hostWait us env).measureOwed = env.measureOwed - us := by
  unfold hostWait; dsimp only; split <;> rfl
@[simp] theorem hostWait_responses (us : Nat) (env : Env) : (hostWait us env).responses = env.responses := by
  unfold hostWait; dsimp only; split <;> rfl
@[simp] theorem hostWait_draws (us : Nat) (env : Env) : (hostWait us env).draws = env.draws := by
  unfold hostWait; dsimp only; split <;> rfl
@[simp] theorem hostWait_written (us : Nat) (env : Env) : (hostWait us env).written = env.written := by
  unfold hostWait; dsimp only; split <;> rfl
@[simp] theorem hostWait_breaches (us : Nat) (env : Env) : (hostWait us env).breaches = env.breaches := by
  unfold hostWait; dsimp only; split <;> rfl

/-- Where a wait leaves the sensor (70_reset_and_hazards.md R264). -/
theorem hostWait_power (us : Nat) (env : Env) :
    (hostWait us env).power = if env.settleOwed ≤ us then env.powerSettled.getD env.power else env.power := by
  unfold hostWait; dsimp only
  split <;> rename_i h
  · rw [if_pos (by omega)]
  · rw [if_neg (by omega)]

/-- What a wait ends (70_reset_and_hazards.md R270). -/
theorem hostWait_inFlight (us : Nat) (env : Env) :
    (hostWait us env).inFlight
      = if env.settleOwed ≤ us then env.inFlight.filter (fun c => !awaitsSettle c) else env.inFlight := by
  unfold hostWait; dsimp only
  split <;> rename_i h
  · rw [if_pos (by omega)]
  · rw [if_neg (by omega)]

/-! ### The transport -/

/-- All that a write can do: nothing is drawn, or it fails, or it succeeds and its command's waits are owed. -/
theorem transportWrite_cases (first second : Byte) (env : Env) :
    (env.draws = [] ∧ transportWrite first second env = (.undrawn, env))
      ∨ ∃ d rest, env.draws = d :: rest
        ∧ ((∃ e env', d.busError = some e ∧ transportWrite first second env = (.busError e, env')
            ∧ env'.block = env.block ∧ env'.power = d.power ∧ env'.inFlight = env.inFlight
            ∧ env'.breaches = commandBreaches env (commandOfOpcode (first ++ second)) ++ env.breaches)
          ∨ ∃ env', d.busError = none ∧ transportWrite first second env = (.done [], env')
            ∧ env'.block = env.block ∧ env'.responses = env.responses ∧ env'.fresh = env.fresh ∧ env'.draws = rest
            ∧ env'.written = (env.devAddr, first, second) :: env.written
            ∧ env'.inFlight = flightAfter env (commandOfOpcode (first ++ second))
            ∧ env'.power = (sentPower d (commandOfOpcode (first ++ second)) env).1
            ∧ env'.powerSettled = (sentPower d (commandOfOpcode (first ++ second)) env).2
            ∧ env'.settleOwed = max env.settleOwed (settleAfter (commandOfOpcode (first ++ second)))
            ∧ env'.measureOwed = max env.measureOwed (measureAfter env.block (commandOfOpcode (first ++ second)))
            ∧ env'.breaches = commandBreaches env (commandOfOpcode (first ++ second)) ++ env.breaches) := by
  cases hd : env.draws with
  | nil => exact .inl ⟨rfl, by simp [transportWrite, hd]⟩
  | cons d rest =>
    refine .inr ⟨d, rest, rfl, ?_⟩
    cases hb : d.busError with
    | some e =>
      refine .inl ⟨e, (transportWrite first second env).2, rfl, ?_⟩
      cases ho : d.owesWait <;> simp [transportWrite, hd, hb, ho]
    | none =>
      refine .inr ⟨(transportWrite first second env).2, rfl, ?_⟩
      simp [transportWrite, hd, hb, oweWaits]

/-- What a read of drawn outcome leaves, whether it fails or answers bytes. -/
theorem transportRead_drawn {n : Nat} {env : Env} (h : (transportRead n env).1 ≠ .undrawn) :
    (transportRead n env).2.block = env.block
      ∧ (transportRead n env).2.inFlight = env.inFlight.eraseP awaitsResponse
      ∧ (transportRead n env).2.breaches = readBreaches env ++ env.breaches := by
  unfold transportRead at h ⊢
  split at h
  · exact absurd rfl h
  · dsimp only at h ⊢
    split at h
    · exact ⟨rfl, rfl, rfl⟩
    · split at h
      · rename_i hl; simp [hl]
      · exact absurd rfl h

/-! ### Feeding a response -/

@[simp] theorem feedResponse_zero (n k : Nat) (env : Env) : feedResponse n 0 k env = env := rfl

theorem feedResponse_succ (n count k : Nat) (env : Env) :
    feedResponse n (count + 1) k env = feedResponse n count (k + 1) (hostFeed n k env) := rfl

/-- What feeding a byte of a response can do. -/
theorem hostFeed_of_byte {n k : Nat} {env : Env} {r : Response} {b : Byte} (hr : env.responses[n]? = some r)
    (hb : r.bytes[k]? = some b) :
    hostFeed n k env = { hostRequest (.valByte b) env with
      responses := env.responses.set n { r with fed := k + 1 }
      breaches := feedBreaches env.fresh r k ++ env.breaches } := by
  simp only [hostFeed, hr, hb]

/-- A response fed in order keeps its obligations (70_reset_and_hazards.md R269, 20_memory.md R70): its first byte after a
VAL_START, and every later byte where the byte before it was the last fed. -/
theorem feedBreaches_eq_nil {fresh : Bool} {r : Response} {k : Nat} (hk : k = r.fed) (hf : k = 0 → fresh = true) :
    feedBreaches fresh r k = [] := by
  subst hk
  unfold feedBreaches
  by_cases h : r.fed = 0
  · simp [h, hf h]
  · simp [h]

end Sys2Proof.Machine
end

