-- ==== Sys2Proof/Laws/State.lean ====
section
/-! SUPPORT. The fields of State after each shared operation: one lemma per field per update, each true by `rfl`, so that
no proof unfolds a record update. -/

namespace Sys2Proof.Machine

/-! ### finishOk -/

@[simp] theorem finishOk_status (s : State) :
    (finishOk s).status = setErr s.status (errBits .ok) := rfl

@[simp] theorem finishOk_crc (s : State) :
    (finishOk s).crc = s.crc := rfl

@[simp] theorem finishOk_vcrc (s : State) :
    (finishOk s).vcrc = s.vcrc := rfl

@[simp] theorem finishOk_vhold (s : State) :
    (finishOk s).vhold = s.vhold := rfl

@[simp] theorem finishOk_vgroups (s : State) :
    (finishOk s).vgroups = s.vgroups := rfl

@[simp] theorem finishOk_failgrp (s : State) :
    (finishOk s).failgrp = s.failgrp := rfl

@[simp] theorem finishOk_w0 (s : State) :
    (finishOk s).w0 = s.w0 := rfl

@[simp] theorem finishOk_w1 (s : State) :
    (finishOk s).w1 = s.w1 := rfl

@[simp] theorem finishOk_res0 (s : State) :
    (finishOk s).res0 = s.res0 := rfl

@[simp] theorem finishOk_res1 (s : State) :
    (finishOk s).res1 = s.res1 := rfl

@[simp] theorem finishOk_profSel (s : State) :
    (finishOk s).profSel = s.profSel := rfl

@[simp] theorem finishOk_params (s : State) :
    (finishOk s).params = s.params := rfl

@[simp] theorem finishOk_requests (s : State) :
    (finishOk s).requests = s.requests := rfl

/-! ### raiseError -/

@[simp] theorem raiseError_status (e : ErrCode) (s : State) :
    (raiseError e s).status = setErr s.status (errBits e) := rfl

@[simp] theorem raiseError_crc (e : ErrCode) (s : State) :
    (raiseError e s).crc = s.crc := rfl

@[simp] theorem raiseError_vcrc (e : ErrCode) (s : State) :
    (raiseError e s).vcrc = s.vcrc := rfl

@[simp] theorem raiseError_vhold (e : ErrCode) (s : State) :
    (raiseError e s).vhold = s.vhold := rfl

@[simp] theorem raiseError_vgroups (e : ErrCode) (s : State) :
    (raiseError e s).vgroups = s.vgroups := rfl

@[simp] theorem raiseError_failgrp (e : ErrCode) (s : State) :
    (raiseError e s).failgrp = s.failgrp := rfl

@[simp] theorem raiseError_w0 (e : ErrCode) (s : State) :
    (raiseError e s).w0 = s.w0 := rfl

@[simp] theorem raiseError_w1 (e : ErrCode) (s : State) :
    (raiseError e s).w1 = s.w1 := rfl

@[simp] theorem raiseError_res0 (e : ErrCode) (s : State) :
    (raiseError e s).res0 = s.res0 := rfl

@[simp] theorem raiseError_res1 (e : ErrCode) (s : State) :
    (raiseError e s).res1 = s.res1 := rfl

@[simp] theorem raiseError_profSel (e : ErrCode) (s : State) :
    (raiseError e s).profSel = s.profSel := rfl

@[simp] theorem raiseError_params (e : ErrCode) (s : State) :
    (raiseError e s).params = s.params := rfl

@[simp] theorem raiseError_requests (e : ErrCode) (s : State) :
    (raiseError e s).requests = s.requests := rfl

/-! ### finishRes0 -/

@[simp] theorem finishRes0_status (v : Word) (s : State) :
    (finishRes0 v s).status = setErr s.status (errBits .ok) := rfl

@[simp] theorem finishRes0_crc (v : Word) (s : State) :
    (finishRes0 v s).crc = s.crc := rfl

@[simp] theorem finishRes0_vcrc (v : Word) (s : State) :
    (finishRes0 v s).vcrc = s.vcrc := rfl

@[simp] theorem finishRes0_vhold (v : Word) (s : State) :
    (finishRes0 v s).vhold = s.vhold := rfl

@[simp] theorem finishRes0_vgroups (v : Word) (s : State) :
    (finishRes0 v s).vgroups = s.vgroups := rfl

@[simp] theorem finishRes0_failgrp (v : Word) (s : State) :
    (finishRes0 v s).failgrp = s.failgrp := rfl

@[simp] theorem finishRes0_w0 (v : Word) (s : State) :
    (finishRes0 v s).w0 = s.w0 := rfl

@[simp] theorem finishRes0_w1 (v : Word) (s : State) :
    (finishRes0 v s).w1 = s.w1 := rfl

@[simp] theorem finishRes0_res0 (v : Word) (s : State) :
    (finishRes0 v s).res0 = v := rfl

@[simp] theorem finishRes0_res1 (v : Word) (s : State) :
    (finishRes0 v s).res1 = s.res1 := rfl

@[simp] theorem finishRes0_profSel (v : Word) (s : State) :
    (finishRes0 v s).profSel = s.profSel := rfl

@[simp] theorem finishRes0_params (v : Word) (s : State) :
    (finishRes0 v s).params = s.params := rfl

@[simp] theorem finishRes0_requests (v : Word) (s : State) :
    (finishRes0 v s).requests = s.requests := rfl

/-! ### finishRes01 -/

@[simp] theorem finishRes01_status (v u : Word) (s : State) :
    (finishRes01 v u s).status = setErr s.status (errBits .ok) := rfl

@[simp] theorem finishRes01_crc (v u : Word) (s : State) :
    (finishRes01 v u s).crc = s.crc := rfl

@[simp] theorem finishRes01_vcrc (v u : Word) (s : State) :
    (finishRes01 v u s).vcrc = s.vcrc := rfl

@[simp] theorem finishRes01_vhold (v u : Word) (s : State) :
    (finishRes01 v u s).vhold = s.vhold := rfl

@[simp] theorem finishRes01_vgroups (v u : Word) (s : State) :
    (finishRes01 v u s).vgroups = s.vgroups := rfl

@[simp] theorem finishRes01_failgrp (v u : Word) (s : State) :
    (finishRes01 v u s).failgrp = s.failgrp := rfl

@[simp] theorem finishRes01_w0 (v u : Word) (s : State) :
    (finishRes01 v u s).w0 = s.w0 := rfl

@[simp] theorem finishRes01_w1 (v u : Word) (s : State) :
    (finishRes01 v u s).w1 = s.w1 := rfl

@[simp] theorem finishRes01_res0 (v u : Word) (s : State) :
    (finishRes01 v u s).res0 = v := rfl

@[simp] theorem finishRes01_res1 (v u : Word) (s : State) :
    (finishRes01 v u s).res1 = u := rfl

@[simp] theorem finishRes01_profSel (v u : Word) (s : State) :
    (finishRes01 v u s).profSel = s.profSel := rfl

@[simp] theorem finishRes01_params (v u : Word) (s : State) :
    (finishRes01 v u s).params = s.params := rfl

@[simp] theorem finishRes01_requests (v u : Word) (s : State) :
    (finishRes01 v u s).requests = s.requests := rfl

/-! ### blockReset -/

@[simp] theorem blockReset_status (s : State) :
    (blockReset s).status = 0x0000#16 := rfl

@[simp] theorem blockReset_crc (s : State) :
    (blockReset s).crc = 0xFF#8 := rfl

@[simp] theorem blockReset_vcrc (s : State) :
    (blockReset s).vcrc = 0xFF#8 := rfl

@[simp] theorem blockReset_vhold (s : State) :
    (blockReset s).vhold = 0x0000#16 := rfl

@[simp] theorem blockReset_vgroups (s : State) :
    (blockReset s).vgroups = 0x0000#16 := rfl

@[simp] theorem blockReset_failgrp (s : State) :
    (blockReset s).failgrp = 0xFFFF#16 := rfl

@[simp] theorem blockReset_w0 (s : State) :
    (blockReset s).w0 = 0x0000#16 := rfl

@[simp] theorem blockReset_w1 (s : State) :
    (blockReset s).w1 = 0x0000#16 := rfl

@[simp] theorem blockReset_res0 (s : State) :
    (blockReset s).res0 = 0x00000000#32 := rfl

@[simp] theorem blockReset_res1 (s : State) :
    (blockReset s).res1 = 0x00000000#32 := rfl

@[simp] theorem blockReset_profSel (s : State) :
    (blockReset s).profSel = 2#2 := rfl

@[simp] theorem blockReset_params (s : State) :
    (blockReset s).params = s.params := rfl

@[simp] theorem blockReset_requests (s : State) :
    (blockReset s).requests = s.requests := rfl

/-! ### takeFirst -/

@[simp] theorem takeFirst_status (b : Byte) (s : State) :
    (takeFirst b s).status = setVpos s.status 1#2 := rfl

@[simp] theorem takeFirst_crc (b : Byte) (s : State) :
    (takeFirst b s).crc = s.crc := rfl

@[simp] theorem takeFirst_vcrc (b : Byte) (s : State) :
    (takeFirst b s).vcrc = crc8Step 0xFF#8 b := rfl

@[simp] theorem takeFirst_vhold (b : Byte) (s : State) :
    (takeFirst b s).vhold = b ++ secondByte s.vhold := rfl

@[simp] theorem takeFirst_vgroups (b : Byte) (s : State) :
    (takeFirst b s).vgroups = s.vgroups := rfl

@[simp] theorem takeFirst_failgrp (b : Byte) (s : State) :
    (takeFirst b s).failgrp = s.failgrp := rfl

@[simp] theorem takeFirst_w0 (b : Byte) (s : State) :
    (takeFirst b s).w0 = s.w0 := rfl

@[simp] theorem takeFirst_w1 (b : Byte) (s : State) :
    (takeFirst b s).w1 = s.w1 := rfl

@[simp] theorem takeFirst_res0 (b : Byte) (s : State) :
    (takeFirst b s).res0 = s.res0 := rfl

@[simp] theorem takeFirst_res1 (b : Byte) (s : State) :
    (takeFirst b s).res1 = s.res1 := rfl

@[simp] theorem takeFirst_profSel (b : Byte) (s : State) :
    (takeFirst b s).profSel = s.profSel := rfl

@[simp] theorem takeFirst_params (b : Byte) (s : State) :
    (takeFirst b s).params = s.params := rfl

@[simp] theorem takeFirst_requests (b : Byte) (s : State) :
    (takeFirst b s).requests = s.requests := rfl

/-! ### takeSecond -/

@[simp] theorem takeSecond_status (b : Byte) (s : State) :
    (takeSecond b s).status = setVpos s.status 2#2 := rfl

@[simp] theorem takeSecond_crc (b : Byte) (s : State) :
    (takeSecond b s).crc = s.crc := rfl

@[simp] theorem takeSecond_vcrc (b : Byte) (s : State) :
    (takeSecond b s).vcrc = crc8Step s.vcrc b := rfl

@[simp] theorem takeSecond_vhold (b : Byte) (s : State) :
    (takeSecond b s).vhold = firstByte s.vhold ++ b := rfl

@[simp] theorem takeSecond_vgroups (b : Byte) (s : State) :
    (takeSecond b s).vgroups = s.vgroups := rfl

@[simp] theorem takeSecond_failgrp (b : Byte) (s : State) :
    (takeSecond b s).failgrp = s.failgrp := rfl

@[simp] theorem takeSecond_w0 (b : Byte) (s : State) :
    (takeSecond b s).w0 = s.w0 := rfl

@[simp] theorem takeSecond_w1 (b : Byte) (s : State) :
    (takeSecond b s).w1 = s.w1 := rfl

@[simp] theorem takeSecond_res0 (b : Byte) (s : State) :
    (takeSecond b s).res0 = s.res0 := rfl

@[simp] theorem takeSecond_res1 (b : Byte) (s : State) :
    (takeSecond b s).res1 = s.res1 := rfl

@[simp] theorem takeSecond_profSel (b : Byte) (s : State) :
    (takeSecond b s).profSel = s.profSel := rfl

@[simp] theorem takeSecond_params (b : Byte) (s : State) :
    (takeSecond b s).params = s.params := rfl

@[simp] theorem takeSecond_requests (b : Byte) (s : State) :
    (takeSecond b s).requests = s.requests := rfl

/-! ### takeChecksum -/

@[simp] theorem takeChecksum_status (b : Byte) (s : State) :
    (takeChecksum b s).status = setVpos (if firstMismatch b s then setChkerr s.status true else s.status) 0#2 := rfl

@[simp] theorem takeChecksum_crc (b : Byte) (s : State) :
    (takeChecksum b s).crc = s.crc := rfl

@[simp] theorem takeChecksum_vcrc (b : Byte) (s : State) :
    (takeChecksum b s).vcrc = s.vcrc := rfl

@[simp] theorem takeChecksum_vhold (b : Byte) (s : State) :
    (takeChecksum b s).vhold = s.vhold := rfl

@[simp] theorem takeChecksum_vgroups (b : Byte) (s : State) :
    (takeChecksum b s).vgroups = satIncr s.vgroups := rfl

@[simp] theorem takeChecksum_failgrp (b : Byte) (s : State) :
    (takeChecksum b s).failgrp = if firstMismatch b s then s.vgroups else s.failgrp := rfl

@[simp] theorem takeChecksum_w0 (b : Byte) (s : State) :
    (takeChecksum b s).w0 = if s.vgroups = 0#16 then s.vhold else s.w0 := rfl

@[simp] theorem takeChecksum_w1 (b : Byte) (s : State) :
    (takeChecksum b s).w1 = if s.vgroups = 1#16 then s.vhold else s.w1 := rfl

@[simp] theorem takeChecksum_res0 (b : Byte) (s : State) :
    (takeChecksum b s).res0 = s.res0 := rfl

@[simp] theorem takeChecksum_res1 (b : Byte) (s : State) :
    (takeChecksum b s).res1 = s.res1 := rfl

@[simp] theorem takeChecksum_profSel (b : Byte) (s : State) :
    (takeChecksum b s).profSel = s.profSel := rfl

@[simp] theorem takeChecksum_params (b : Byte) (s : State) :
    (takeChecksum b s).params = s.params := rfl

@[simp] theorem takeChecksum_requests (b : Byte) (s : State) :
    (takeChecksum b s).requests = s.requests := rfl

/-! ### present -/

@[simp] theorem present_status (w : Word) (s : State) :
    (Sys2Proof.Safety.present w s).status = s.status := rfl

@[simp] theorem present_crc (w : Word) (s : State) :
    (Sys2Proof.Safety.present w s).crc = s.crc := rfl

@[simp] theorem present_vcrc (w : Word) (s : State) :
    (Sys2Proof.Safety.present w s).vcrc = s.vcrc := rfl

@[simp] theorem present_vhold (w : Word) (s : State) :
    (Sys2Proof.Safety.present w s).vhold = s.vhold := rfl

@[simp] theorem present_vgroups (w : Word) (s : State) :
    (Sys2Proof.Safety.present w s).vgroups = s.vgroups := rfl

@[simp] theorem present_failgrp (w : Word) (s : State) :
    (Sys2Proof.Safety.present w s).failgrp = s.failgrp := rfl

@[simp] theorem present_w0 (w : Word) (s : State) :
    (Sys2Proof.Safety.present w s).w0 = s.w0 := rfl

@[simp] theorem present_w1 (w : Word) (s : State) :
    (Sys2Proof.Safety.present w s).w1 = s.w1 := rfl

@[simp] theorem present_res0 (w : Word) (s : State) :
    (Sys2Proof.Safety.present w s).res0 = s.res0 := rfl

@[simp] theorem present_res1 (w : Word) (s : State) :
    (Sys2Proof.Safety.present w s).res1 = s.res1 := rfl

@[simp] theorem present_profSel (w : Word) (s : State) :
    (Sys2Proof.Safety.present w s).profSel = s.profSel := rfl

@[simp] theorem present_params (w : Word) (s : State) :
    (Sys2Proof.Safety.present w s).params = s.params := rfl

@[simp] theorem present_requests (w : Word) (s : State) :
    (Sys2Proof.Safety.present w s).requests = w :: s.requests := rfl

end Sys2Proof.Machine
end

