-- ==== Sys2Proof/Laws/Status.lean ====
section
/-! SUPPORT. The fields of STATUS after each field update (10_state.md R22), and that the four fields are all of it. -/

namespace Sys2Proof.Machine

@[simp] theorem errField_setErr (st : Half) (e : BitVec 4) : errField (setErr st e) = e := by
  unfold errField setErr; ext i hi; simp; grind

@[simp] theorem chkerrFlag_setErr (st : Half) (e : BitVec 4) : chkerrFlag (setErr st e) = chkerrFlag st := by
  simp [chkerrFlag, setErr]; grind

@[simp] theorem vposField_setErr (st : Half) (e : BitVec 4) : vposField (setErr st e) = vposField st := by
  unfold vposField setErr; ext i hi; simp; grind

@[simp] theorem reservedField_setErr (st : Half) (e : BitVec 4) : reservedField (setErr st e) = reservedField st := by
  unfold reservedField setErr; ext i hi; simp; grind

@[simp] theorem errField_setChkerr (st : Half) (b : Bool) : errField (setChkerr st b) = errField st := by
  unfold errField setChkerr; ext i hi; simp; grind

@[simp] theorem chkerrFlag_setChkerr (st : Half) (b : Bool) : chkerrFlag (setChkerr st b) = b := by
  simp [chkerrFlag, setChkerr]; grind

@[simp] theorem vposField_setChkerr (st : Half) (b : Bool) : vposField (setChkerr st b) = vposField st := by
  unfold vposField setChkerr; ext i hi; simp; grind

@[simp] theorem reservedField_setChkerr (st : Half) (b : Bool) :
    reservedField (setChkerr st b) = reservedField st := by
  unfold reservedField setChkerr; ext i hi; simp; grind

@[simp] theorem errField_setVpos (st : Half) (v : BitVec 2) : errField (setVpos st v) = errField st := by
  unfold errField setVpos; ext i hi; simp; grind

@[simp] theorem chkerrFlag_setVpos (st : Half) (v : BitVec 2) : chkerrFlag (setVpos st v) = chkerrFlag st := by
  simp [chkerrFlag, setVpos]; grind

@[simp] theorem vposField_setVpos (st : Half) (v : BitVec 2) : vposField (setVpos st v) = v := by
  unfold vposField setVpos; ext i hi; simp; grind

@[simp] theorem reservedField_setVpos (st : Half) (v : BitVec 2) :
    reservedField (setVpos st v) = reservedField st := by
  unfold reservedField setVpos; ext i hi; simp; grind

/-- ERR is all that `setErr` changes. -/
@[simp] theorem extractLsb'_setErr (st : Half) (e : BitVec 4) :
    (setErr st e).extractLsb' 4 12 = st.extractLsb' 4 12 := by
  unfold setErr; ext i hi; simp; grind

/-- STATUS is its four fields (10_state.md R22). -/
theorem status_eq_fields (st : Half) :
    st = reservedField st ++ vposField st ++ BitVec.ofBool (chkerrFlag st) ++ errField st := by
  ext i hi; simp [reservedField, vposField, chkerrFlag, errField]; grind

/-- Two STATUS values with equal fields are equal. -/
theorem status_ext {a b : Half} (herr : errField a = errField b) (hchk : chkerrFlag a = chkerrFlag b)
    (hvpos : vposField a = vposField b) (hres : reservedField a = reservedField b) : a = b := by
  rw [status_eq_fields a, status_eq_fields b, herr, hchk, hvpos, hres]

/-- The statements' raw bit positions are the fields. -/
theorem extractLsb'_err (st : Half) : st.extractLsb' 0 4 = errField st := rfl

theorem getLsbD_chkerr (st : Half) : st.getLsbD 4 = chkerrFlag st := rfl

theorem extractLsb'_vpos (st : Half) : st.extractLsb' 5 2 = vposField st := rfl

theorem extractLsb'_reserved (st : Half) : st.extractLsb' 7 9 = reservedField st := rfl

end Sys2Proof.Machine
end

