-- ==== Sys2Proof/Laws/Ops.lean ====
section
/-! SUPPORT. What each shared operation can do, said once: the port, the two ways a request ends, the gate, the register
numbers, the CRC over a list. -/

namespace Sys2Proof.Machine

open Sys2Proof.Safety

/-! ### The port -/

/-- A step with a word presented performs it, with the word taken. -/
theorem step_present (w : Word) (s : State) : step (present w s) = perform w s := rfl

theorem step_of_requests {s : State} {w : Word} {rest : List Word} (h : s.requests = w :: rest) :
    step s = perform w { s with requests := rest } := by
  unfold step takeRequest; rw [h]

/-- All that `takeRequest` can answer. -/
theorem takeRequest_cases (s : State) :
    (s.requests = [] ∧ takeRequest s = none)
      ∨ ∃ w rest, s.requests = w :: rest ∧ takeRequest s = some (w, { s with requests := rest }) := by
  unfold takeRequest
  cases h : s.requests with
  | nil => exact .inl ⟨rfl, rfl⟩
  | cons w rest => exact .inr ⟨w, rest, rfl, rfl⟩

theorem perform_ok {w : Word} {i : Instr} (h : decode w = .ok i) (s : State) : perform w s = exec i s := by
  unfold perform; rw [h]

theorem perform_error {w : Word} {e : DecodeError} (h : decode w = .error e) (s : State) :
    perform w s = .next (raiseError (decodeErrCode e) s) := by
  unfold perform; rw [h]

/-! ### How a request ends -/

theorem errWritten_setErr (st : Half) (e : BitVec 4) : ErrWritten e st (setErr st e) :=
  ⟨errField_setErr st e, extractLsb'_setErr st e⟩

theorem endsWith_finishOk (s : State) : EndsWith 0#4 s (finishOk s) := ⟨_, errWritten_setErr _ _, rfl⟩

theorem endsWith_raiseError (e : ErrCode) (s : State) : EndsWith (errBits e) s (raiseError e s) :=
  ⟨_, errWritten_setErr _ _, rfl⟩

theorem endsWith_finishRes0 (v : Word) (s : State) : EndsWith 0#4 { s with res0 := v } (finishRes0 v s) :=
  ⟨_, errWritten_setErr _ _, rfl⟩

theorem endsWith_finishRes01 (v u : Word) (s : State) :
    EndsWith 0#4 { s with res0 := v, res1 := u } (finishRes01 v u s) :=
  ⟨_, errWritten_setErr _ _, rfl⟩

/-- The ERR of a state a request ended in. -/
theorem endsWith_err {e : BitVec 4} {base t : State} (h : EndsWith e base t) : errField t.status = e := by
  obtain ⟨st, ⟨he, -⟩, rfl⟩ := h; exact he

theorem errBits_ne_zero {e : ErrCode} (h : e ≠ .ok) : errBits e ≠ 0#4 := by cases e <;> first | exact absurd rfl h | decide

/-! ### The measurement gate (43_converter.md R178) -/

/-- All that the gate can answer. -/
theorem measGate_cases (n : Half) (s : State) :
    (chkerrFlag s.status = true ∧ measGate n s = some .checksum)
      ∨ (chkerrFlag s.status = false ∧ s.vgroups.toNat < n.toNat ∧ measGate n s = some .noData)
      ∨ (chkerrFlag s.status = false ∧ n.toNat ≤ s.vgroups.toNat ∧ measGate n s = none) := by
  unfold measGate
  cases hc : chkerrFlag s.status with
  | true => exact .inl (by simp)
  | false =>
    by_cases hn : s.vgroups.toNat < n.toNat
    · exact .inr (.inl (by simp [hn, BitVec.ult]))
    · exact .inr (.inr (by simp [hn, BitVec.ult]; omega))

/-- All that a gated request can do. -/
theorem gated_cases (n : Half) (effect : State → State) (s : State) :
    (chkerrFlag s.status = true ∧ gated n effect s = .next (raiseError .checksum s))
      ∨ (chkerrFlag s.status = false ∧ s.vgroups.toNat < n.toNat
        ∧ gated n effect s = .next (raiseError .noData s))
      ∨ (chkerrFlag s.status = false ∧ n.toNat ≤ s.vgroups.toNat ∧ gated n effect s = .next (effect s)) := by
  unfold gated
  rcases measGate_cases n s with ⟨hc, h⟩ | ⟨hc, hn, h⟩ | ⟨hc, hn, h⟩
  · exact .inl ⟨hc, by rw [h]⟩
  · exact .inr (.inl ⟨hc, hn, by rw [h]⟩)
  · exact .inr (.inr ⟨hc, hn, by rw [h]⟩)

/-! ### Selection and register numbers -/

/-- The ROM is empty exactly at the reserved SEL codes (30_encoding.md R87, 40_encoder.md R111). -/
theorem opcodeRom_none_iff : ∀ sel : BitVec 4, opcodeRom sel = none ↔ selReserved sel = true := by decide

theorem selCommand_commandSel (c : Command) : selCommand (commandSel c) = some c := by
  cases c with
  | sleep => decide
  | wakeUp => decide
  | softwareReset => decide
  | readIdRegister => decide
  | measure mode order stretch => cases mode <;> cases order <;> cases stretch <;> decide

/-- A register number gives no value exactly when it is reserved (10_state.md R38). -/
theorem readRegister_none_iff (s : State) (reg : BitVec 4) :
    readRegister s reg = none ↔ regReserved reg = true := by
  have hvalue : ∀ r : BitVec 4, regReserved r = false → r ∈ [0x0#4, 0x1#4, 0x2#4, 0x3#4, 0x4#4, 0x5#4, 0x6#4, 0x7#4]
      ++ [0x8#4, 0x9#4, 0xA#4, 0xB#4, 0xC#4, 0xD#4] := by decide
  have hnone : ∀ r : BitVec 4, regReserved r = true → r ∈ [0xE#4, 0xF#4] := by decide
  cases h : regReserved reg with
  | true => have := hnone reg h; simp at this; rcases this with rfl | rfl <;> simp [readRegister]
  | false =>
    have := hvalue reg h
    simp at this
    rcases this with rfl | rfl | rfl | rfl | rfl | rfl | rfl | rfl | rfl | rfl | rfl | rfl | rfl | rfl <;>
      simp [readRegister]

theorem maxDur_toNat (a b : Half) : (maxDur a b).toNat = max a.toNat b.toNat := by
  unfold maxDur
  by_cases h : a.toNat < b.toNat
  · simp [BitVec.ult, h]; omega
  · simp [BitVec.ult, h]; omega

/-! ### The CRC over a list (41_crc.md R130) -/

theorem crc8From_append (c : Byte) (l l' : List Byte) : crc8From c (l ++ l') = crc8From (crc8From c l) l' := by
  induction l generalizing c with
  | nil => rfl
  | cons b rest ih => exact ih (crc8Step c b)

theorem crc8_append_one (l : List Byte) (b : Byte) : crc8 (l ++ [b]) = crc8Step (crc8 l) b :=
  crc8From_append _ l [b]

/-- The group count after one more group, as a number (10_state.md R29). -/
theorem satIncr_toNat (n : Half) : (satIncr n).toNat = min (n.toNat + 1) 65535 := by
  have hlt := n.isLt
  unfold satIncr
  split
  · rename_i h; subst h; rfl
  · rename_i h
    have : n.toNat ≠ 65535 := fun hn => h (BitVec.eq_of_toNat_eq hn)
    simp only [BitVec.toNat_add, BitVec.toNat_ofNat]
    omega

/-- The bytes of a word put together from two bytes (20_memory.md R61). -/
@[simp] theorem firstByte_append (a b : Byte) : firstByte (a ++ b) = a := by
  unfold firstByte; ext i hi; simp; grind

@[simp] theorem secondByte_append (a b : Byte) : secondByte (a ++ b) = b := by
  unfold secondByte; ext i hi; simp; grind

end Sys2Proof.Machine
end

