-- ==== Sys2Proof/Laws/PerInstr.lean ====
section
/-! SUPPORT. Statements made of every request, one lemma a constructor. `EncodesToItsRow`: the word of a request matches
the row of spec/opcode_table.json with its mnemonic, whatever its operand. -/

namespace Sys2Proof.Laws.EncodesToItsRow

open Sys2Proof.Safety

/-- The word of `i` matches its row: `match` and `mask` as the table has them. -/
def Statement (i : Instr) : Prop := encode i &&& rowMask (opcodeOfInstr i) = rowMatch (opcodeOfInstr i)

/-- A word with RSV and the masked argument bits zero matches a row that tests exactly those bits. -/
theorem append_and_mask (op : Byte) (arg mask : Half) (h : arg &&& mask = 0#16) :
    (op ++ 0#8 ++ arg) &&& (0xFF#8 ++ 0xFF#8 ++ mask) = op ++ 0#8 ++ 0#16 := by
  rw [BitVec.and_append, BitVec.and_append, h, show op &&& 0xFF#8 = op from BitVec.and_allOnes]
  rfl

/-- Each row's `mask` tests OP, RSV and the format's must-be-zero bits, and its `match` is its OP. -/
theorem rowMask_eq (o : Opcode) : rowMask o = 0xFF#8 ++ 0xFF#8 ++ mustBeZero (formatOf o) := by cases o <;> decide

theorem rowMatch_eq (o : Opcode) : rowMatch o = opBits o ++ 0#8 ++ 0#16 := by cases o <;> decide

/-- A request whose argument leaves its format's must-be-zero bits zero matches its row. -/
theorem of_argBits {i : Instr} (h : argBits i &&& mustBeZero (formatOf (opcodeOfInstr i)) = 0#16) : Statement i := by
  unfold Statement encode
  rw [rowMask_eq, rowMatch_eq]
  exact append_and_mask _ _ _ h

theorem nop : Statement Instr.nop := of_argBits (by decide)

theorem rst : Statement Instr.rst := of_argBits (by decide)

theorem regRd (reg : BitVec 4) : Statement (Instr.regRd reg) := of_argBits (by revert reg; decide)

theorem enc (sel : BitVec 4) : Statement (Instr.enc sel) := of_argBits (by revert sel; decide)

theorem encChk (sel : BitVec 4) : Statement (Instr.encChk sel) := of_argBits (by revert sel; decide)

theorem crcInit : Statement Instr.crcInit := of_argBits (by decide)

theorem crcByte (b : Byte) : Statement (Instr.crcByte b) := of_argBits (by revert b; decide)

theorem crcWord (w : Half) : Statement (Instr.crcWord w) := of_argBits (by simp [argBits, opcodeOfInstr, formatOf, mustBeZero])

theorem valStart : Statement Instr.valStart := of_argBits (by decide)

theorem valByte (b : Byte) : Statement (Instr.valByte b) := of_argBits (by revert b; decide)

theorem valCheck : Statement Instr.valCheck := of_argBits (by decide)

theorem convT (raw : Half) : Statement (Instr.convT raw) := of_argBits (by simp [argBits, opcodeOfInstr, formatOf, mustBeZero])

theorem convH (raw : Half) : Statement (Instr.convH raw) := of_argBits (by simp [argBits, opcodeOfInstr, formatOf, mustBeZero])

theorem convId (raw : Half) : Statement (Instr.convId raw) := of_argBits (by simp [argBits, opcodeOfInstr, formatOf, mustBeZero])

theorem measT : Statement Instr.measT := of_argBits (by decide)

theorem measH : Statement Instr.measH := of_argBits (by decide)

theorem measId : Statement Instr.measId := of_argBits (by decide)

theorem measTh (ord : Order) : Statement (Instr.measTh ord) := of_argBits (by cases ord <;> decide)

theorem profSet (psel : BitVec 2) : Statement (Instr.profSet psel) := of_argBits (by revert psel; decide)

theorem profDur (mode : PowerMode) : Statement (Instr.profDur mode) := of_argBits (by cases mode <;> decide)

end Sys2Proof.Laws.EncodesToItsRow
end

