-- ==== Sys2Proof/Tests/Slice0.lean ====
section
/-! SUPPORT. The model's own tests: decoding of words written out from 30_encoding.md, ill-formed requests, the spec's test
vectors (95_test_vectors.md) one request at a time, and, for every statement with hypotheses, a witness that they can be
met. -/

namespace Sys2Proof.Tests

open Sys2Proof.Machine Sys2Proof.Safety

/-! ### Decoding: one word a constructor, OP : RSV : ARG written out from 30_encoding.md R81 to R83 -/

theorem test_decode_nop : decode 0b00000000_00000000_0000000000000000#32 = .ok .nop := by decide
theorem test_decode_rst : decode 0b00000001_00000000_0000000000000000#32 = .ok .rst := by decide
theorem test_decode_reg_rd : decode 0b00000010_00000000_0000000000001011#32 = .ok (.regRd 0xB#4) := by decide
theorem test_decode_enc : decode 0b00010000_00000000_0000000000001000#32 = .ok (.enc 0x8#4) := by decide
theorem test_decode_enc_chk : decode 0b00010001_00000000_0000000000000001#32 = .ok (.encChk 0x1#4) := by decide
theorem test_decode_crc_init : decode 0b00100000_00000000_0000000000000000#32 = .ok .crcInit := by decide
theorem test_decode_crc_byte : decode 0b00100001_00000000_0000000010111110#32 = .ok (.crcByte 0xBE#8) := by decide
theorem test_decode_crc_word : decode 0b00100010_00000000_1011111011101111#32 = .ok (.crcWord 0xBEEF#16) := by decide
theorem test_decode_val_start : decode 0b00110000_00000000_0000000000000000#32 = .ok .valStart := by decide
theorem test_decode_val_byte : decode 0b00110001_00000000_0000000001100100#32 = .ok (.valByte 0x64#8) := by decide
theorem test_decode_val_check : decode 0b00110010_00000000_0000000000000000#32 = .ok .valCheck := by decide
theorem test_decode_conv_t : decode 0b01000000_00000000_0110010010001011#32 = .ok (.convT 0x648B#16) := by decide
theorem test_decode_conv_h : decode 0b01000001_00000000_1010000100110011#32 = .ok (.convH 0xA133#16) := by decide
theorem test_decode_conv_id : decode 0b01000010_00000000_0000100000000111#32 = .ok (.convId 0x0807#16) := by decide
theorem test_decode_meas_t : decode 0b01001000_00000000_0000000000000000#32 = .ok .measT := by decide
theorem test_decode_meas_h : decode 0b01001001_00000000_0000000000000000#32 = .ok .measH := by decide
theorem test_decode_meas_id : decode 0b01001010_00000000_0000000000000000#32 = .ok .measId := by decide
theorem test_decode_meas_th : decode 0b01001011_00000000_0000000000000001#32 = .ok (.measTh .humidityFirst) := by decide
theorem test_decode_prof_set : decode 0b01010000_00000000_0000000000000010#32 = .ok (.profSet 2#2) := by decide
theorem test_decode_prof_dur : decode 0b01010001_00000000_0000000000000001#32 = .ok (.profDur .lowPower) := by decide

/-- 95_test_vectors.md section 2.6: RSV, reserved OP. -/
theorem test_decode_illegal_op : decode 0x00010000#32 = .error .illegalOp ∧ decode 0x03000000#32 = .error .illegalOp
    ∧ decode 0xFF000000#32 = .error .illegalOp ∧ decode 0x0001FFFF#32 = .error .illegalOp := by decide

/-- 95_test_vectors.md sections 2.1 to 2.6: must-be-zero bits. -/
theorem test_decode_illegal_arg : decode 0x00000001#32 = .error .illegalArg ∧ decode 0x10000018#32 = .error .illegalArg
    ∧ decode 0x31000100#32 = .error .illegalArg ∧ decode 0x4B000002#32 = .error .illegalArg
    ∧ decode 0x51000002#32 = .error .illegalArg := by decide

/-- The host's view, and the word out of range (log 9). -/
theorem test_decodeTableWord : decodeTableWord 32 0x4000648B = some (.convT 0x648B#16)
    ∧ decodeTableWord 32 0x03000000 = none ∧ decodeTableWord 40 0x0100000000 = none := by decide

/-- 30_encoding.md R89: `ENC 0x8` is 0x10000008, by number and by name. -/
theorem test_assemble : assemble "ENC" (some "0x8") = some 0x10000008#32
    ∧ assemble "ENC" (some "MEAS_N_T_NS") = some 0x10000008#32 ∧ assemble "PROF_DUR" (some "1") = some 0x51000001#32
    ∧ assemble "NOP" (some "1") = none ∧ assemble "CRC_BYTE" (some "0x1BE") = some 0x210001BE#32 := by decide

/-- 30_encoding.md R90. -/
theorem test_pseudo : responseStream [0xBE#8, 0xEF#8] = [.valStart, .valByte 0xBE#8, .valByte 0xEF#8, .valCheck]
    ∧ crcs [0x00#8] = [.crcInit, .crcByte 0x00#8] := by decide

/-! ### Ill-formed requests (30_encoding.md R85, R87) -/

theorem test_illformed_reg : wellFormed (.regRd 0xE#4) = false ∧ wellFormed (.regRd 0xF#4) = false
    ∧ wellFormed (.regRd 0xD#4) = true := by decide

theorem test_illformed_enc : wellFormed (.enc 0x4#4) = false ∧ wellFormed (.enc 0x5#4) = false
    ∧ wellFormed (.enc 0x6#4) = false ∧ wellFormed (.enc 0x7#4) = false ∧ wellFormed (.enc 0x8#4) = true := by decide

theorem test_illformed_enc_chk : wellFormed (.encChk 0x4#4) = false ∧ wellFormed (.encChk 0x7#4) = false
    ∧ wellFormed (.encChk 0x3#4) = true := by decide

theorem test_illformed_psel : wellFormed (.profSet 3#2) = false ∧ wellFormed (.profSet 2#2) = true := by decide

/-! ### One request on a small state; every expected value is from 95_test_vectors.md or the rule's own example -/

/-- The state after the word `w` is presented in `s`. -/
def after (w : Word) (s : State) : Option State :=
  match step (present w s) with
  | .next t => some t
  | .fault _ => none
  | .refused _ => none

/-- Reset with STATUS as given. -/
def withStatus (st : Half) : State := { State.reset with status := st }

/-- A stream with one whole group, captured in W0. -/
def oneGroup (w : Half) : State := { State.reset with vgroups := 1#16, w0 := w }

/-- A stream with two whole groups. -/
def twoGroups (w w' : Half) : State := { State.reset with vgroups := 2#16, w0 := w, w1 := w' }

/-- Reset with another profile selected. -/
def withProfile (sel : BitVec 2) : State := { State.reset with profSel := sel }

/-- R215: NOP clears ERR and keeps CHKERR. -/
theorem test_nop : (after 0x00000000#32 (withStatus 0x0011#16)).map (·.status) = some 0x0010#16 := by decide

/-- R216. -/
theorem test_rst : after 0x01000000#32 { twoGroups 0x648B#16 0xA133#16 with status := 0x0075#16, crc := 0x37#8, profSel := 0#2 }
    = some State.reset := by decide

/-- P4: the previous ERR. -/
theorem test_reg_rd_status : (after 0x02000000#32 (withStatus 0x0002#16)).map (fun t => (t.res0, t.status))
    = some (0x00000002#32, 0x0000#16) := by decide

/-- Section 2.6: 0200000B and 02000004 from reset, 0200000E. -/
theorem test_reg_rd : (after 0x0200000B#32 State.reset).map (·.res0) = some 0xF0#32
    ∧ (after 0x02000004#32 State.reset).map (·.res0) = some 0xFFFF#32
    ∧ (after 0x0200000E#32 State.reset).map (·.status) = some 0x0004#16 := by decide

theorem test_enc : (after 0x10000008#32 State.reset).map (·.res0) = some 0x7866#32
    ∧ (after 0x1000000D#32 State.reset).map (·.res0) = some 0x6458#32 := by decide

theorem test_enc_reserved : (after 0x10000004#32 State.reset).map (fun t => (t.res0, t.status)) = some (0#32, 4#16) := by
  decide

/-- Section 2.1: UNSUPPORTED by profile. -/
theorem test_enc_chk : (after 0x11000000#32 (withProfile 0#2)).map (fun t => (t.res0, t.status)) = some (0#32, 2#16)
    ∧ (after 0x11000000#32 (withProfile 1#2)).map (·.res0) = some 0xB098#32
    ∧ (after 0x11000003#32 (withProfile 0#2)).map (·.res0) = some 0xEFC8#32 := by decide

theorem test_enc_chk_reserved_first : (after 0x11000004#32 (withProfile 0#2)).map (·.status) = some 4#16 := by decide

theorem test_crc_init : (after 0x20000000#32 { State.reset with crc := 0xAC#8 }).map (·.crc) = some 0xFF#8 := by decide

theorem test_crc_byte : (after 0x21000000#32 State.reset).map (fun t => (t.crc, t.res0)) = some (0xAC#8, 0xAC#32)
    ∧ (after 0x210000EF#32 { State.reset with crc := 0x0C#8 }).map (·.res0) = some 0x92#32 := by decide

theorem test_crc_word : (after 0x2200BEEF#32 State.reset).map (fun t => (t.crc, t.res0)) = some (0xFF#8, 0x92#32)
    ∧ (after 0x22000000#32 State.reset).map (·.res0) = some 0x81#32
    ∧ (after 0x2200FFFF#32 State.reset).map (·.res0) = some 0xAC#32 := by decide +kernel

/-- S1, S2 and section 2.2. -/
theorem test_crc8 : crc8 [] = 0xFF#8 ∧ crc8 [0x00#8] = 0xAC#8 ∧ crc8 [0xBE#8, 0xEF#8] = 0x92#8
    ∧ crc8 [0x64#8, 0x8B#8] = 0xC7#8 ∧ crc8 [0x08#8, 0x07#8] = 0x21#8 := by decide +kernel

theorem test_val_start : (after 0x30000000#32 { oneGroup 0xBEEF#16 with status := 0x0051#16, failgrp := 0#16 }).map
    (fun t => (t.status, t.vgroups, t.failgrp, t.w0)) = some (0#16, 0#16, 0xFFFF#16, 0xBEEF#16) := by decide

/-- A passing group's checksum (S3): captured, counted, no CHKERR. -/
theorem test_val_byte_pass :
    (after 0x31000092#32 { withStatus 0x0040#16 with vhold := 0xBEEF#16, vcrc := 0x92#8 }).map
      (fun t => (t.status, t.w0, t.vgroups, t.failgrp)) = some (0#16, 0xBEEF#16, 1#16, 0xFFFF#16) := by decide

/-- A failing group's (S4): CHKERR and FAILGRP, ERR 0, the bytes kept. -/
theorem test_val_byte_fail :
    (after 0x31000091#32 { withStatus 0x0040#16 with vhold := 0xBEEF#16, vcrc := 0x92#8 }).map
      (fun t => (t.status, t.w0, t.vgroups, t.failgrp)) = some (0x0010#16, 0xBEEF#16, 1#16, 0#16) := by decide

/-- S3, S4, S5. -/
theorem test_validate : validate [0xBE#8, 0xEF#8, 0x92#8] = .ok
    ∧ validate [0xBE#8, 0xEF#8, 0x91#8] = .checksumError 0 ∧ validate [0xBE#8, 0xEF#8] = .ok := by decide +kernel

theorem test_val_check : (after 0x32000000#32 (oneGroup 0xBEEF#16)).map (·.res0) = some 1#32
    ∧ (after 0x32000000#32 { oneGroup 0xBEEF#16 with status := 0x0010#16 }).map (fun t => (t.res0, t.status))
      = some (0#32, 0x0011#16) := by decide

theorem test_conv_t : (after 0x4000648B#32 State.reset).map (·.res0) = some 0x5CB2#32
    ∧ (after 0x40000000#32 State.reset).map (·.res0) = some 0xFFFF5038#32
    ∧ (after 0x400041D4#32 State.reset).map (·.res0) = some 0xFFFFFFFF#32 := by decide

theorem test_conv_h : (after 0x4100A133#32 State.reset).map (·.res0) = some 0xF5F8#32
    ∧ (after 0x4100FFFF#32 State.reset).map (·.res0) = some 0x1869E#32 := by decide

theorem test_conv_id : (after 0x42000807#32 State.reset).map (·.res0) = some 0x47#32
    ∧ (after 0x4200F7C0#32 State.reset).map (·.res0) = some 0#32 := by decide

theorem test_meas_t : (after 0x48000000#32 (oneGroup 0x648B#16)).map (·.res0) = some 0x5CB2#32
    ∧ (after 0x48000000#32 { oneGroup 0x648B#16 with vgroups := 0#16 }).map (·.status) = some 5#16 := by decide

theorem test_meas_h : (after 0x49000000#32 (oneGroup 0xA133#16)).map (·.res0) = some 0xF5F8#32 := by decide

theorem test_meas_id : (after 0x4A000000#32 (oneGroup 0x0807#16)).map (·.res0) = some 0x47#32 := by decide

/-- S9, and P7's order. -/
theorem test_meas_th : (after 0x4B000000#32 (twoGroups 0x648B#16 0xA133#16)).map (fun t => (t.res0, t.res1))
      = some (0x5CB2#32, 0xF5F8#32)
    ∧ (after 0x4B000001#32 (twoGroups 0xA133#16 0x648B#16)).map (fun t => (t.res0, t.res1))
      = some (0x5CB2#32, 0xF5F8#32) := by decide

/-- Section 2.4: CHECKSUM before NO_DATA. -/
theorem test_gate_order : (after 0x4B000000#32 { oneGroup 0xBEEF#16 with status := 0x0010#16 }).map (·.status)
    = some 0x0011#16 := by decide

theorem test_prof_set : (after 0x50000001#32 State.reset).map (·.profSel) = some 1#2
    ∧ (after 0x50000003#32 (withProfile 1#2)).map (fun t => (t.profSel, t.status)) = some (1#2, 4#16) := by decide

/-- Section 2.5, with the default parameters and with P_DUR_G1_NORMAL = 100, P_DUR_G2_NORMAL = 200. -/
theorem test_prof_dur : (after 0x51000001#32 (withProfile 1#2)).map (·.res0) = some 0x320#32
    ∧ (after 0x51000000#32 (State.resetWith { Config.defaultParams with durG1Normal := 100#16, durG2Normal := 200#16 })).map
      (·.res0) = some 200#32 := by decide

/-- The word the host places is the one the next step runs. -/
theorem test_withFetchWord : (match step (State.reset.withFetchWord 32 0x210000BE) with
    | .next t => some (t.res0, t.requests)
    | _ => none) = some (0x0C#32, []) := by decide

/-! ### The environment -/

/-- A draw: an action that succeeds. -/
def good (bytes : List Byte) : Draw := ⟨none, bytes, .idle, none, true⟩

/-- A draw: an action that fails with the transport's error value `e`. -/
def bad (e : Nat) (owesWait : Bool) : Draw := ⟨some e, [], .sleeping, none, owesWait⟩

/-- The block at reset with a sensor and a transport that answer as drawn. -/
def drawnEnv (draws : List Draw) : Env := Env.start State.reset Config.defaultDevAddr true draws

/-- The block at reset with a sensor that answers a write and then a read. -/
def answeringEnv (bytes : List Byte) : Env := drawnEnv [good [], good bytes]

/-- A sensor asleep that answers every action. -/
def asleepEnv : Env := { drawnEnv [good [], good []] with power := .sleeping }

/-- 70_reset_and_hazards.md R266: a command other than WakeUp to a sleeping sensor is a breach; the NACK
surfaces as the transport's error (S12). -/
theorem test_sleeping_sensor :
    (runOp (.measureTemperature .normal) { drawnEnv [bad 7 false] with power := .sleeping }).1 = .busError 7
    ∧ (runOp (.measureTemperature .normal) { drawnEnv [bad 7 false] with power := .sleeping }).2.breaches
      = [.commandWhileAsleep] := by decide

/-- R264: a sleeping sensor is Idle only once 240 microseconds have passed since the WakeUp (opcode 0x3517). -/
theorem test_wakeup_takes_the_wait :
    (transportWrite 0x35#8 0x17#8 asleepEnv).2.power = .sleeping
    ∧ (hostWait 239 (transportWrite 0x35#8 0x17#8 asleepEnv).2).power = .sleeping
    ∧ (hostWait 1 (hostWait 239 (transportWrite 0x35#8 0x17#8 asleepEnv).2)).power = .idle := by decide

/-- A host that has sent the Commands of these operations and read no response yet. -/
def inFlightEnv (cs : List Command) (draws : List Draw) : Env := { drawnEnv draws with inFlight := cs }

/-- R265: SoftwareReset (0x805D) is valid during a measurement; another command there is not R268's one transaction. -/
theorem test_software_reset_during_measurement :
    (transportWrite 0x80#8 0x5D#8 { drawnEnv [good []] with measureOwed := 5 }).2.breaches = []
    ∧ (transportWrite 0x80#8 0x5D#8 { drawnEnv [good []] with measureOwed := 5 }).2.power = .idle
    ∧ (transportWrite 0xEF#8 0xC8#8 { drawnEnv [good []] with measureOwed := 5 }).2.breaches
      = [.overlappingCommand] := by decide

/-- R268: a command between the ReadIdRegister write (0xEFC8) and its read, which has no wait. -/
theorem test_command_before_the_read :
    (transportWrite 0xEF#8 0xC8#8 (drawnEnv [good []])).2.inFlight = [.readIdRegister]
    ∧ (transportWrite 0xB0#8 0x98#8 (inFlightEnv [.readIdRegister] [good []])).2.breaches = [.overlappingCommand] := by
  decide

/-- R268: a second read for one write, and a command after the wait but before the read. -/
theorem test_second_read :
    (transportRead 0 (inFlightEnv [.readIdRegister] [good []])).2.breaches = []
    ∧ (transportRead 0 (transportRead 0 (inFlightEnv [.readIdRegister] [good [], good []])).2).2.breaches
      = [.readOutsideOperation]
    ∧ (transportWrite 0xEF#8 0xC8#8 (hostWait 14400 { inFlightEnv [.measure .normal .temperatureFirst false] [good []] with
      measureOwed := 14400 })).2.breaches = [.overlappingCommand] := by decide

/-- Log 12: whether a failed SoftwareReset owes its settle wait is drawn. -/
theorem test_failed_write : (transportWrite 0x80#8 0x5D#8 (drawnEnv [bad 7 true])).2.settleOwed = 240
    ∧ (transportWrite 0x80#8 0x5D#8 (drawnEnv [bad 7 false])).2.settleOwed = 0 := by decide

/-- R269: the VAL_START may come before the read; what counts is the VAL_BYTE it precedes. -/
theorem test_framed_before_the_read :
    (feedResponse 0 3 0 (transportRead 3 (hostRequest .valStart
      (inFlightEnv [.readIdRegister] [good [0xBE#8, 0xEF#8, 0x92#8]]))).2).breaches = [] := by decide +kernel

/-- R269: of two responses fed after one VAL_START, the second one's first byte is not framed. -/
theorem test_two_responses_one_start :
    (feedResponse 1 2 0 (feedResponse 0 2 0 (hostRequest .valStart
      (transportRead 2 (transportRead 2 (inFlightEnv [.readIdRegister, .readIdRegister]
        [good [1#8, 2#8], good [3#8, 4#8]])).2).2))).breaches = [.unframedByte] := by decide +kernel

/-- 20_memory.md R70: a byte out of the sensor's order. -/
theorem test_byte_out_of_order :
    (hostFeed 0 2 (hostFeed 0 0 (hostRequest .valStart
      (transportRead 3 (inFlightEnv [.readIdRegister] [good [1#8, 2#8, 3#8]])).2))).breaches = [.byteOutOfOrder] := by decide +kernel

/-! ### Witnesses: for each statement with hypotheses, a concrete case that meets them, clause by clause -/

/-- WordRuns and the clauses it is made of: RSV not zero, a legal argument and an illegal one at the format's edge. -/
theorem witness_word_runs :
    (after (0x31#8 ++ 1#8 ++ 0x00FF#16) State.reset).map (·.status) = some 3#16
    ∧ (after (0x31#8 ++ 0#8 ++ 0x00FF#16) State.reset).map (·.status) = some 0x0020#16
    ∧ (after (0x31#8 ++ 0#8 ++ 0x0100#16) State.reset).map (·.status) = some 4#16
    ∧ selArgLegal 3#16 = true ∧ selArgLegal 4#16 = false ∧ selArgLegal 7#16 = false ∧ selArgLegal 8#16 = true
    ∧ selArgLegal 15#16 = true ∧ selArgLegal 16#16 = false := by decide

theorem witness_RegRd : after 0x0200000D#32 State.reset = some State.reset
    ∧ (after 0x0200000F#32 State.reset).map (·.status) = some 4#16
    ∧ (after 0x02000010#32 State.reset).map (·.status) = some 4#16 := by decide

theorem witness_EncChk_supported : (0x0#4, 0xB098#16) ∈ sensorTable ∧ (activeProfile State.reset).sleepCap = true
    ∧ (0x2#4, 0x805D#16) ∈ sensorTable ∧ (0x2#4 ≠ 0x0#4 ∧ 0x2#4 ≠ 0x1#4) := by decide

theorem witness_EncChk_unsupported : (activeProfile (withProfile 0#2)).sleepCap = false
    ∧ (after 0x11000001#32 (withProfile 0#2)).map (·.status) = some 2#16 := by decide

theorem witness_CrcByte_from_reset : State.reset.crc = 0xFF#8 := by decide

theorem witness_PartialTrailingGroup : [0xBE#8, 0xEF#8, 0x91#8].length % 3 = 0 ∧ [0x00#8, 0x11#8].length < 3
    ∧ ([] : List Byte).length % 3 = 0 ∧ ([] : List Byte).length < 3 ∧ [0xBE#8, 0xEF#8].length < 3 := by decide

theorem witness_ValidateFindsTheFirstBadGroup :
    validate [0xFF#8, 0xFF#8, 0xAC#8, 0x00#8, 0x00#8, 0x80#8] = .checksumError 1 := by decide +kernel

theorem witness_ChecksumCatches :
    crc8 [(0xBEEF92#24).extractLsb' 16 8, (0xBEEF92#24).extractLsb' 8 8] = (0xBEEF92#24).extractLsb' 0 8
    ∧ 0 < 24 ∧ 23 < 24 := by decide +kernel

theorem witness_ValByte_positions : (withStatus 0x0000#16).status.extractLsb' 5 2 = 0#2
    ∧ (withStatus 0x0020#16).status.extractLsb' 5 2 = 1#2 ∧ (withStatus 0x0040#16).status.extractLsb' 5 2 = 2#2 := by
  decide

/-- The saturated count (10_state.md R29, R30). -/
theorem witness_ValByte_saturated :
    (after 0x31000000#32 { withStatus 0x0040#16 with vgroups := 0xFFFF#16 }).map
      (fun t => (t.status, t.vgroups, t.failgrp)) = some (0x0010#16, 0xFFFF#16, 0xFFFF#16) := by decide

theorem witness_chkerr : (withStatus 0x0000#16).status.getLsbD 4 = false ∧ (withStatus 0x0010#16).status.getLsbD 4 = true := by
  decide

/-- A stream of six bytes with a NOP and a malformed VAL_BYTE between (R155). -/
theorem witness_Stream :
    [0x31000064#32, 0x00000000#32, 0x3100008B#32, 0x310000C7#32, 0x31000100#32, 0x310000A1#32, 0x31000033#32,
      0x3100001D#32].all keepsStream = true
    ∧ streamBytes [0x31000064#32, 0x00000000#32, 0x3100008B#32, 0x310000C7#32, 0x31000100#32, 0x310000A1#32,
      0x31000033#32, 0x3100001D#32] = [0x64#8, 0x8B#8, 0xC7#8, 0xA1#8, 0x33#8, 0x1D#8]
    ∧ validate [0x64#8, 0x8B#8, 0xC7#8, 0xA1#8, 0x33#8, 0x1D#8] = .checksumError 1 := by decide +kernel

theorem validateFrom_good_groups (n k : Nat) (tail : List Byte) :
    validateFrom k ((List.replicate n [0xFF#8, 0xFF#8, 0xAC#8]).flatten ++ tail) = validateFrom (k + n) tail := by
  induction n generalizing k with
  | zero => simp
  | succ n ih =>
    have hgroup : crc8 [0xFF#8, 0xFF#8] = 0xAC#8 := by decide +kernel
    simp only [List.replicate_succ, List.flatten_cons, List.cons_append, List.nil_append,
      validateFrom, hgroup, ne_eq, not_true_eq_false, if_false, ih]
    rw [show k + 1 + n = k + (n + 1) by omega]

theorem streamBytes_valByte_words (bytes : List Byte) :
    (bytes.map (fun b => encode (.valByte b))).all keepsStream = true
      ∧ streamBytes (bytes.map (fun b => encode (.valByte b))) = bytes := by
  have hword : ∀ b : Byte, decode (encode (.valByte b)) = .ok (.valByte b) := by decide
  induction bytes with
  | nil => exact ⟨rfl, rfl⟩
  | cons b rest ih => simpa [keepsStream, streamBytes, hword b] using ih

/-- R155's last clause at its edge: a stream whose first bad group has index 65535. -/
theorem witness_Stream_late_failure : ∃ ws : List Word, ws.all keepsStream = true
    ∧ validate (streamBytes ws) = .checksumError 65535 := by
  refine ⟨((List.replicate 65535 [0xFF#8, 0xFF#8, 0xAC#8]).flatten ++ [0#8, 0#8, 0#8]).map (fun b => encode (.valByte b)),
    (streamBytes_valByte_words _).1, ?_⟩
  rw [(streamBytes_valByte_words _).2]
  unfold validate
  rw [validateFrom_good_groups]
  have hbad : crc8 [0#8, 0#8] ≠ 0#8 := by decide +kernel
  simp [validateFrom, hbad]

theorem witness_Conversions : (0#16).toNat < (1#16).toNat ∧ (0xFFFE#16).toNat < (0xFFFF#16).toNat
    ∧ (0xFFFE#16).toNat < 65535 := by decide

theorem witness_SingleMeasurements :
    (oneGroup 0x648B#16).status.getLsbD 4 = false ∧ 1 ≤ (oneGroup 0x648B#16).vgroups.toNat
    ∧ State.reset.status.getLsbD 4 = false ∧ State.reset.vgroups = 0#16
    ∧ (withStatus 0x0010#16).status.getLsbD 4 = true := by decide

theorem witness_MeasTh : (twoGroups 0x648B#16 0xA133#16).status.getLsbD 4 = false
    ∧ 2 ≤ (twoGroups 0x648B#16 0xA133#16).vgroups.toNat
    ∧ (oneGroup 0x648B#16).status.getLsbD 4 = false ∧ (oneGroup 0x648B#16).vgroups.toNat < 2
    ∧ (withStatus 0x0010#16).status.getLsbD 4 = true := by decide

theorem witness_MeasurementsComeOnlyFromValidatedStreams :
    validate [0x64#8, 0x8B#8, 0xC7#8, 0xA1#8, 0x33#8, 0x1C#8] = .ok
    ∧ 2 ≤ [0x64#8, 0x8B#8, 0xC7#8, 0xA1#8, 0x33#8, 0x1C#8].length / 3
    ∧ validate [0x64#8, 0x8B#8, 0xC7#8] = .ok ∧ ¬2 ≤ [0x64#8, 0x8B#8, 0xC7#8].length / 3
    ∧ validate [0x64#8, 0x8B#8, 0xC6#8] ≠ .ok := by decide +kernel

theorem witness_FreshStream : validate [0x64#8, 0x8B#8, 0xC7#8] = .ok
    ∧ opcodeOfInstr (.measTh .humidityFirst) = .measTh := by decide +kernel

theorem witness_ProfileRows : (withProfile 0#2).profSel = 0#2 ∧ (withProfile 1#2).profSel = 1#2
    ∧ State.reset.profSel = 2#2 := by decide

theorem witness_ProfSet : (0#2 : BitVec 2) ≠ 3#2 ∧ (2#2 : BitVec 2) ≠ 3#2 := by decide

theorem witness_DecodingFollowsTheOpcodeTable : 0x10000008#32 &&& rowMask .enc = rowMatch .enc
    ∧ decode 0x10000008#32 = .ok (.enc 0x8#4) := by decide

/-- Each range of reserved opcodes at both ends. -/
theorem witness_ReservedOpcodes :
    [0x03#8, 0x0F#8, 0x12#8, 0x1F#8, 0x23#8, 0x2F#8, 0x33#8, 0x3F#8, 0x43#8, 0x47#8, 0x4C#8, 0x4F#8, 0x52#8, 0xFF#8].all
      (fun op => (after (op ++ 0#8 ++ 0#16) State.reset).map (·.status) == some 3#16) = true := by decide

theorem witness_only_noop : ∀ s : State, ∃ t, step (present 0x00000000#32 s) = .next t ∧ EndsWith 0#4 s t :=
  fun s => ⟨_, rfl, endsWith_finishOk s⟩

/-- One word for each branch of R88. -/
theorem witness_EveryWord : (after 0x10010008#32 State.reset).map (·.status) = some 3#16
    ∧ (after 0x52000000#32 State.reset).map (·.status) = some 3#16
    ∧ (after 0x10000010#32 State.reset).map (·.status) = some 4#16
    ∧ wellFormed (.enc 0x7#4) = false ∧ (after 0x10000007#32 State.reset).map (·.status) = some 4#16
    ∧ (after 0x10000008#32 State.reset).map (·.status) = some 0#16 := by decide

theorem witness_StepRuns : (present 0x48000000#32 State.reset).requests = 0x48000000#32 :: []
    ∧ decode 0x48000000#32 = .ok .measT ∧ wellFormed .measT = true := by decide

theorem witness_Idle : State.reset.requests = [] := rfl

/-- Two words and the last index of their observations. -/
theorem witness_Runs : 1 < [0x00000000#32, 0x48000000#32].length
    ∧ runProgram [0x00000000#32, 0x48000000#32] State.reset
      = .next ([(0#32, 0#32, 0x0000#16), (0#32, 0#32, 0x0005#16)], withStatus 0x0005#16) := ⟨by decide, rfl⟩

theorem witness_ErrorsArePrecise : ∃ t, step (present 0x11000000#32 (withProfile 0#2)) = .next t
    ∧ t.status.extractLsb' 0 4 ≠ 0#4 := ⟨_, rfl, by decide⟩

/-- A word for each code. -/
theorem witness_ErrorCodes :
    (∃ t, step (present 0x32000000#32 (withStatus 0x0010#16)) = .next t ∧ t.status.extractLsb' 0 4 = 1#4)
    ∧ (∃ t, step (present 0x11000001#32 (withProfile 0#2)) = .next t ∧ t.status.extractLsb' 0 4 = 2#4)
    ∧ (∃ t, step (present 0x03000000#32 State.reset) = .next t ∧ t.status.extractLsb' 0 4 = 3#4)
    ∧ (∃ t, step (present 0x00000001#32 State.reset) = .next t ∧ t.status.extractLsb' 0 4 = 4#4)
    ∧ (∃ t, step (present 0x50000003#32 State.reset) = .next t ∧ t.status.extractLsb' 0 4 = 4#4)
    ∧ (∃ t, step (present 0x4B000000#32 (oneGroup 0#16)) = .next t ∧ t.status.extractLsb' 0 4 = 5#4)
    ∧ ∃ t, step (present 0x48000000#32 State.reset) = .next t ∧ t.status.extractLsb' 0 4 = 5#4 :=
  ⟨⟨_, rfl, by decide⟩, ⟨_, rfl, by decide⟩, ⟨_, rfl, by decide⟩, ⟨_, rfl, by decide⟩, ⟨_, rfl, by decide⟩,
    ⟨_, rfl, by decide⟩, ⟨_, rfl, by decide⟩⟩

/-- CHKERR set by a checksum byte, kept by NOP, cleared by VAL_START and by RST. -/
theorem witness_ChkerrIsSticky :
    (∃ t, step (present 0x31000001#32 { withStatus 0x0040#16 with vcrc := 0x92#8 }) = .next t
      ∧ t.status.getLsbD 4 = true)
    ∧ (∃ t, step (present 0x00000000#32 (withStatus 0x0010#16)) = .next t ∧ t.status.getLsbD 4 = true)
    ∧ (∃ t, step (present 0x30000000#32 (withStatus 0x0010#16)) = .next t ∧ t.status.getLsbD 4 = false)
    ∧ ∃ t, step (present 0x01000000#32 (withStatus 0x0010#16)) = .next t ∧ t.status.getLsbD 4 = false :=
  ⟨⟨_, rfl, by decide⟩, ⟨_, rfl, by decide⟩, ⟨_, rfl, by decide⟩, ⟨_, rfl, by decide⟩⟩

theorem witness_Registers : ∃ t, exec (.crcByte 0xBE#8) State.reset = .next t ∧ t.crc ≠ State.reset.crc
    ∧ t.res0 ≠ State.reset.res0 := ⟨_, rfl, by decide⟩

theorem witness_BuildTimeConstants : ∃ t, step (present 0x50000002#32 State.reset) = .next t
    ∧ t.profSel = State.reset.profSel := ⟨_, rfl, by decide⟩

/-- A state the invariant holds of, one group short of saturation with a group pending, and a step from it. -/
theorem witness_EveryStepKeepsStateOk :
    StateOk { withStatus 0x0040#16 with vgroups := 0xFFFE#16, vhold := 0xBEEF#16, vcrc := 0x92#8 }
    ∧ (after 0x31000091#32 { withStatus 0x0040#16 with vgroups := 0xFFFE#16, vhold := 0xBEEF#16, vcrc := 0x92#8 }).map
      (fun t => (t.failgrp, t.vgroups)) = some (0xFFFE#16, 0xFFFF#16) := by decide +kernel

/-- A stream of two bytes, and the checksum byte that ends its group and fails it. -/
theorem witness_EveryStepKeepsStreamAgreement :
    StreamAgrees [0xBE#8, 0xEF#8] { withStatus 0x0040#16 with vhold := 0xBEEF#16, vcrc := 0x92#8 }
    ∧ keepsStream 0x31000091#32 = true ∧ keepsStream 0x48000000#32 = true ∧ streamBytes [0x31000091#32] = [0x91#8]
    ∧ ∃ t, step (present 0x31000091#32 { withStatus 0x0040#16 with vhold := 0xBEEF#16, vcrc := 0x92#8 }) = .next t
      ∧ t.status.getLsbD 4 = true := by
  have hstatus : (withStatus 0x0040#16).status = 0x0040#16 := rfl
  refine ⟨⟨by decide +kernel, fun _ => rfl, fun k h => ?_, by decide, by decide, by decide, by decide, by decide, by decide,
    fun _ => by decide +kernel⟩, by decide, by decide, by decide, _, rfl, by decide⟩
  simp [validate, validateFrom] at h

theorem witness_SleepWithoutCapability :
    (activeProfile { (drawnEnv []) with block := withProfile 0#2 }.block).sleepCap = false := by decide

theorem witness_SleepAndWakeUp : (answeringEnv []).settleOwed = 0 ∧ (answeringEnv []).power = .idle
    ∧ (answeringEnv []).sensorCanSleep = true ∧ (runOp .wakeup (answeringEnv [])).1 = .ok
    ∧ (runOp .sleep (answeringEnv [])).1 = .ok ∧ (activeProfile (answeringEnv []).block).sleepCap = true
    ∧ (answeringEnv []).draws = good [] :: good [] :: [] ∧ (good []).busError = none := by decide

theorem witness_WakeUpTakesTheSettleWait : asleepEnv.power = .sleeping ∧ asleepEnv.settleOwed = 0
    ∧ asleepEnv.draws = good [] :: good [] :: [] ∧ (good []).busError = none ∧ 240 ≤ 240 ∧ ¬240 ≤ 239 := by decide

theorem witness_HostOperations : (answeringEnv []).settleOwed = 0 ∧ (answeringEnv []).measureOwed = 0
    ∧ (answeringEnv []).inFlight = [] ∧ (answeringEnv []).power = .idle ∧ asleepEnv.settleOwed = 0
    ∧ asleepEnv.measureOwed = 0 ∧ asleepEnv.inFlight = [] ∧ (runOp .wakeup asleepEnv).1 = .ok := by decide

/-- Every clause of R268's statement: an overlapping command, a SoftwareReset to a sleeping sensor, two reads. -/
theorem witness_OneTransactionAtATime :
    (inFlightEnv [.readIdRegister] [good [], good []]).inFlight ≠ [] ∧ (0xEF#8 ++ 0xC8#8 : Half) ≠ 0x805D#16
    ∧ (transportWrite 0xEF#8 0xC8#8 (inFlightEnv [.readIdRegister] [good []])).1 ≠ .undrawn
    ∧ { inFlightEnv [.wakeUp] [good []] with power := .sleeping }.power = .sleeping
    ∧ (inFlightEnv [.readIdRegister] [good [], good []]).inFlight.length ≤ 1 ∧ (drawnEnv []).inFlight.length ≤ 1
    ∧ (transportRead 0 (inFlightEnv [.readIdRegister] [good [], good []])).1 ≠ .undrawn
    ∧ (transportRead 0 (transportRead 0 (inFlightEnv [.readIdRegister] [good [], good []])).2).1 ≠ .undrawn := by decide

/-- S9 as a host operation: the measure sequence of R270. -/
theorem witness_MeasureOperation :
    (answeringEnv [0x64#8, 0x8B#8, 0xC7#8, 0xA1#8, 0x33#8, 0x1C#8]).draws
      = good [] :: good [0x64#8, 0x8B#8, 0xC7#8, 0xA1#8, 0x33#8, 0x1C#8] :: []
    ∧ (good []).busError = none
    ∧ (good [0x64#8, 0x8B#8, 0xC7#8, 0xA1#8, 0x33#8, 0x1C#8]).bytes = [0x64#8, 0x8B#8, 0xC7#8, 0xA1#8, 0x33#8, 0x1C#8]
    ∧ crc8 [0x64#8, 0x8B#8] = 0xC7#8 ∧ crc8 [0xA1#8, 0x33#8] = 0x1C#8 ∧ crc8 [0xA1#8, 0x33#8] ≠ 0x1D#8 := by decide +kernel

end Sys2Proof.Tests
end

section
/-! SUPPORT. What a request does to the block, said once: the states it can end in, by the branches of its meaning. -/

namespace Sys2Proof.Machine

/-- What VAL_START does beside ERR (42_validator.md R152). -/
def startStream (s : State) : State :=
  { s with
    status := setVpos (setChkerr s.status false) 0#2
    vcrc := 0xFF#8
    vgroups := 0#16
    failgrp := 0xFFFF#16 }

theorem execValStart_eq (s : State) : execValStart s = .next (startStream (finishOk s)) := rfl

/-- The requests that can raise an error by their own meaning (60_exceptions.md R230). -/
def mayRaise (o : Opcode) : Bool :=
  o ∈ [Opcode.regRd, .enc, .encChk, .valCheck, .measT, .measH, .measId, .measTh, .profSet]

/-- The requests whose success writes RES0 and nothing else but ERR (10_state.md R32). -/
def givesOneResult (o : Opcode) : Bool :=
  o ∈ [Opcode.regRd, .enc, .encChk, .crcWord, .valCheck, .convT, .convH, .convId, .measT, .measH, .measId, .profDur]

/-- All that a request can do to the state `s`, one constructor for each way its meaning ends. -/
inductive RequestEffect (s : State) : Instr → State → Prop where
  | raised {i : Instr} (e : ErrCode) (hi : mayRaise (opcodeOfInstr i)) : RequestEffect s i (raiseError e s)
  | result {i : Instr} (v : Word) (hi : givesOneResult (opcodeOfInstr i)) : RequestEffect s i (finishRes0 v s)
  | nop : RequestEffect s .nop (finishOk s)
  | rst : RequestEffect s .rst (finishOk (blockReset s))
  | crcInit : RequestEffect s .crcInit { finishOk s with crc := 0xFF#8 }
  | crcByte (b : Byte) : RequestEffect s (.crcByte b)
      { finishRes0 ((crc8Step s.crc b).setWidth 32) s with crc := crc8Step s.crc b }
  | valStart : RequestEffect s .valStart (startStream (finishOk s))
  | firstByte (b : Byte) (hv : vposField s.status = 0#2) : RequestEffect s (.valByte b) (finishOk (takeFirst b s))
  | secondByte (b : Byte) (hv : vposField s.status = 1#2) : RequestEffect s (.valByte b) (finishOk (takeSecond b s))
  | checksumByte (b : Byte) (hv₀ : vposField s.status ≠ 0#2) (hv₁ : vposField s.status ≠ 1#2) :
      RequestEffect s (.valByte b) (finishOk (takeChecksum b s))
  | measTh (ord : Order) : RequestEffect s (.measTh ord)
      (finishRes01 (convT (temperatureWord ord s)) (convH (humidityWord ord s)) s)
  | profSet (psel : BitVec 2) (hp : psel ≠ 3#2) : RequestEffect s (.profSet psel) { finishOk s with profSel := psel }

namespace RequestEffect

/-- The request `i` is known to end in `u`; what it answered is `u`. -/
theorem of_next {s t u : State} {i : Instr} (hu : RequestEffect s i u)
    (h : (Host.Outcome.next u : Host.Outcome State Fault Refusal) = .next t) : RequestEffect s i t :=
  Host.Outcome.next.inj h ▸ hu

/-- A gated request raises an error or has its effect (43_converter.md R178). -/
theorem of_gated {s t : State} {i : Instr} {n : Half} {effect : State → State} (h : gated n effect s = .next t)
    (hi : mayRaise (opcodeOfInstr i)) (heffect : RequestEffect s i (effect s)) : RequestEffect s i t := by
  rcases gated_cases n effect s with ⟨-, hg⟩ | ⟨-, -, hg⟩ | ⟨-, -, hg⟩
  · exact of_next (.raised .checksum hi) (hg ▸ h)
  · exact of_next (.raised .noData hi) (hg ▸ h)
  · exact of_next heffect (hg ▸ h)

/-- REG_RD ends in a result, or in an error where the number is reserved (45_system.md R217). -/
theorem of_execRegRd {s t : State} {reg : BitVec 4} (h : execRegRd reg s = .next t) :
    RequestEffect s (.regRd reg) t := by
  unfold execRegRd at h
  split at h
  · exact of_next (.result _ rfl) h
  · exact of_next (.raised _ rfl) h

/-- ENC ends in an opcode, or in an error where SEL is reserved (40_encoder.md R113). -/
theorem of_execEnc {s t : State} {sel : BitVec 4} (h : execEnc sel s = .next t) : RequestEffect s (.enc sel) t := by
  unfold execEnc at h
  split at h
  · exact of_next (.raised _ rfl) h
  · exact of_next (.result _ rfl) h

/-- ENC_CHK ends in an opcode, or in an error where SEL is reserved or the capability is missing (40_encoder.md R114). -/
theorem of_execEncChk {s t : State} {sel : BitVec 4} (h : execEncChk sel s = .next t) :
    RequestEffect s (.encChk sel) t := by
  unfold execEncChk at h
  split at h
  · exact of_next (.raised _ rfl) h
  · split at h
    · exact of_next (.raised _ rfl) h
    · exact of_next (.result _ rfl) h

/-- VAL_BYTE takes the byte by its position in the group (42_validator.md R153). -/
theorem of_execValByte {s t : State} {b : Byte} (h : execValByte b s = .next t) : RequestEffect s (.valByte b) t := by
  unfold execValByte at h
  split at h
  · next hv => exact of_next (.firstByte b hv) h
  · next hv₀ =>
    split at h
    · next hv₁ => exact of_next (.secondByte b hv₁) h
    · next hv₁ => exact of_next (.checksumByte b hv₀ hv₁) h

/-- VAL_CHECK ends in the count, or in CHECKSUM where a group failed (42_validator.md R154). -/
theorem of_execValCheck {s t : State} (h : execValCheck s = .next t) : RequestEffect s .valCheck t := by
  unfold execValCheck at h
  split at h
  · exact of_next (.raised _ rfl) h
  · exact of_next (.result _ rfl) h

/-- PROF_SET writes PROF_SEL, or ends in an error where PSEL is reserved (44_profile.md R200). -/
theorem of_execProfSet {s t : State} {psel : BitVec 2} (h : execProfSet psel s = .next t) :
    RequestEffect s (.profSet psel) t := by
  unfold execProfSet at h
  split at h
  · exact of_next (.raised _ rfl) h
  · next hp => exact of_next (.profSet psel (by simpa [pselReserved] using hp)) h

/-- THE INVERSION OF `exec`: whatever a request answers is one of its effects. -/
theorem of_exec {i : Instr} {s t : State} (h : exec i s = .next t) : RequestEffect s i t := by
  cases i with
  | nop => exact of_next .nop h
  | rst => exact of_next .rst h
  | regRd reg => exact of_execRegRd h
  | enc sel => exact of_execEnc h
  | encChk sel => exact of_execEncChk h
  | crcInit => exact of_next .crcInit h
  | crcByte b => exact of_next (.crcByte b) h
  | crcWord w => exact of_next (.result _ rfl) h
  | valStart => exact of_next .valStart (execValStart_eq s ▸ h)
  | valByte b => exact of_execValByte h
  | valCheck => exact of_execValCheck h
  | convT raw => exact of_next (.result _ rfl) h
  | convH raw => exact of_next (.result _ rfl) h
  | convId raw => exact of_next (.result _ rfl) h
  | measT => exact of_gated h rfl (.result _ rfl)
  | measH => exact of_gated h rfl (.result _ rfl)
  | measId => exact of_gated h rfl (.result _ rfl)
  | measTh ord => exact of_gated h rfl (.measTh ord)
  | profSet psel => exact of_execProfSet h
  | profDur mode => exact of_next (.result _ rfl) h

end RequestEffect

/-- THE INVERSION OF `perform`: a word is an error of decoding, or the effect of the request it names
(30_encoding.md R88). -/
theorem perform_cases {w : Word} {s t : State} (h : perform w s = .next t) :
    (∃ e, decode w = .error e ∧ t = raiseError (decodeErrCode e) s)
      ∨ ∃ i, decode w = .ok i ∧ RequestEffect s i t := by
  cases hd : decode w with
  | error e => exact .inl ⟨e, rfl, (Host.Outcome.next.inj (perform_error hd s ▸ h)).symm⟩
  | ok i => exact .inr ⟨i, rfl, .of_exec (perform_ok hd s ▸ h)⟩

end Sys2Proof.Machine
end

section
/-! PROOF. The block's invariant (O47): each register's clause under each operation of the state, then each request. -/

namespace Sys2Proof.Machine

open Sys2Proof.Safety

/-- `StateOk` in the names of STATUS's fields. -/
theorem stateOk_iff (s : State) : StateOk s ↔
    (reservedField s.status = 0#9 ∧ (errField s.status).toNat ≤ 5 ∧ vposField s.status ≠ 3#2)
      ∧ (if chkerrFlag s.status then
          s.failgrp.toNat < s.vgroups.toNat ∨ s.failgrp = 0xFFFF#16 ∧ s.vgroups = 0xFFFF#16
        else s.failgrp = 0xFFFF#16)
      ∧ ((vposField s.status = 1#2 → s.vcrc = crc8 [firstByte s.vhold])
        ∧ (vposField s.status = 2#2 → s.vcrc = crc8 [firstByte s.vhold, secondByte s.vhold]))
      ∧ s.profSel ≠ 3#2 ∧ s.res1.toNat ≤ 99998 := Iff.rfl

/-- Every error code is one of the six of 60_exceptions.md R230. -/
theorem errBits_toNat_le (e : ErrCode) : (errBits e).toNat ≤ 5 := by cases e <;> decide

/-- `conv_h` in whole numbers (43_converter.md R171): nothing overflows. -/
theorem convH_toNat (raw : Half) : (convH raw).toNat = raw.toNat * 12500 / 8192 := by
  have hlt := raw.isLt
  simp only [convH, BitVec.toNat_ushiftRight, BitVec.toNat_mul, BitVec.toNat_setWidth, BitVec.toNat_ofNat,
    Nat.shiftRight_eq_div_pow]
  omega

/-- No relative humidity is beyond 99998 (43_converter.md R171). -/
theorem convH_toNat_le (raw : Half) : (convH raw).toNat ≤ 99998 := by
  have hlt := raw.isLt
  rw [convH_toNat]
  omega

/-! ### The operations of the state keep the invariant -/

/-- The invariant speaks of no register but these, and of ERR only that it is a code. -/
theorem stateOk_of_frame {s t : State} (e : ErrCode) (hs : StateOk s) (hstatus : t.status = setErr s.status (errBits e))
    (hvcrc : t.vcrc = s.vcrc) (hvhold : t.vhold = s.vhold) (hvgroups : t.vgroups = s.vgroups)
    (hfailgrp : t.failgrp = s.failgrp) (hprof : t.profSel ≠ 3#2) (hres1 : t.res1.toNat ≤ 99998) : StateOk t := by
  obtain ⟨⟨hres, -, hvpos⟩, hfail, hcrc, -, -⟩ := (stateOk_iff s).mp hs
  refine (stateOk_iff t).mpr ⟨⟨?_, ?_, ?_⟩, ?_, ?_, hprof, hres1⟩
  · simpa [hstatus] using hres
  · simpa [hstatus] using errBits_toNat_le e
  · simpa [hstatus] using hvpos
  · simpa [hstatus, hvgroups, hfailgrp] using hfail
  · simpa [hstatus, hvcrc, hvhold] using hcrc

theorem stateOk_raiseError {s : State} (e : ErrCode) (hs : StateOk s) : StateOk (raiseError e s) := by
  obtain ⟨-, -, -, hprof, hres1⟩ := (stateOk_iff s).mp hs
  exact stateOk_of_frame e hs rfl rfl rfl rfl rfl hprof hres1

theorem stateOk_finishOk {s : State} (hs : StateOk s) : StateOk (finishOk s) := stateOk_raiseError .ok hs

theorem stateOk_blockReset (s : State) : StateOk (blockReset s) := by
  rw [stateOk_iff, blockReset_status, blockReset_vcrc, blockReset_vhold, blockReset_vgroups, blockReset_failgrp,
    blockReset_profSel, blockReset_res1]
  decide

/-- A new stream has no failure and no unfinished group. -/
theorem stateOk_startStream {s : State} (hs : StateOk s) : StateOk (startStream s) := by
  obtain ⟨⟨hres, herr, -⟩, -, -, hprof, hres1⟩ := (stateOk_iff s).mp hs
  rw [stateOk_iff]
  simp [startStream, hres, herr, hprof, hres1]

theorem stateOk_takeFirst {s : State} (b : Byte) (hs : StateOk s) : StateOk (takeFirst b s) := by
  obtain ⟨⟨hres, herr, -⟩, hfail, -, hprof, hres1⟩ := (stateOk_iff s).mp hs
  have hcrc : crc8Step 0xFF#8 b = crc8 [b] := rfl
  rw [stateOk_iff]
  simpa [hres, herr, hprof, hres1, hcrc] using hfail

/-- The second byte extends the CRC of the first. -/
theorem stateOk_takeSecond {s : State} (b : Byte) (hv : vposField s.status = 1#2) (hs : StateOk s) :
    StateOk (takeSecond b s) := by
  obtain ⟨⟨hres, herr, -⟩, hfail, ⟨hone, -⟩, hprof, hres1⟩ := (stateOk_iff s).mp hs
  have hcrc : crc8Step s.vcrc b = crc8 [firstByte s.vhold, b] := by
    rw [hone hv]; exact (crc8_append_one [firstByte s.vhold] b).symm
  rw [stateOk_iff]
  simpa [hres, herr, hprof, hres1, hcrc] using hfail

/-- FAILGRP stays the index of a counted group as the count grows, and a failing group's own index is counted at once
(10_state.md R29, R30). -/
theorem lt_satIncr_or_saturated {k n : Half} (h : k.toNat ≤ n.toNat) :
    k.toNat < (satIncr n).toNat ∨ k = 0xFFFF#16 ∧ satIncr n = 0xFFFF#16 := by
  have hn := n.isLt
  have hsat := satIncr_toNat n
  by_cases hk : k.toNat = 65535
  · exact .inr ⟨BitVec.eq_of_toNat_eq hk, BitVec.eq_of_toNat_eq (by simp; omega)⟩
  · exact .inl (by omega)

/-- The checksum byte ends the group: a first mismatch puts its index in FAILGRP. -/
theorem stateOk_takeChecksum {s : State} (b : Byte) (hs : StateOk s) : StateOk (takeChecksum b s) := by
  obtain ⟨⟨hres, herr, -⟩, hfail, -, hprof, hres1⟩ := (stateOk_iff s).mp hs
  rw [stateOk_iff]
  cases hm : firstMismatch b s with
  | true => simpa [hm, hres, herr, hprof, hres1] using lt_satIncr_or_saturated (Nat.le_refl s.vgroups.toNat)
  | false =>
    cases hc : chkerrFlag s.status with
    | false => simpa [hm, hc, hres, herr, hprof, hres1] using hfail
    | true =>
      have hle : s.failgrp.toNat ≤ s.vgroups.toNat := by
        rw [hc, if_pos rfl] at hfail
        rcases hfail with hlt | ⟨hf, hg⟩
        · exact Nat.le_of_lt hlt
        · rw [hf, hg]
      simpa [hm, hc, hres, herr, hprof, hres1] using lt_satIncr_or_saturated hle

/-! ### Every request and every step keeps it -/

theorem RequestEffect.stateOk {s t : State} {i : Instr} (h : RequestEffect s i t) (hs : StateOk s) : StateOk t := by
  obtain ⟨-, -, -, hprof, hres1⟩ := (stateOk_iff s).mp hs
  cases h with
  | raised e _ => exact stateOk_raiseError e hs
  | result v _ => exact stateOk_of_frame .ok hs rfl rfl rfl rfl rfl hprof hres1
  | nop => exact stateOk_finishOk hs
  | rst => exact stateOk_finishOk (stateOk_blockReset s)
  | crcInit => exact stateOk_of_frame .ok hs rfl rfl rfl rfl rfl hprof hres1
  | crcByte b => exact stateOk_of_frame .ok hs rfl rfl rfl rfl rfl hprof hres1
  | valStart => exact stateOk_startStream (stateOk_finishOk hs)
  | firstByte b _ => exact stateOk_finishOk (stateOk_takeFirst b hs)
  | secondByte b hv => exact stateOk_finishOk (stateOk_takeSecond b hv hs)
  | checksumByte b _ _ => exact stateOk_finishOk (stateOk_takeChecksum b hs)
  | measTh ord => exact stateOk_of_frame .ok hs rfl rfl rfl rfl rfl hprof (convH_toNat_le _)
  | profSet psel hp => exact stateOk_of_frame .ok hs rfl rfl rfl rfl rfl hp hres1

theorem stateOk_perform {w : Word} {s t : State} (hs : StateOk s) (h : perform w s = .next t) : StateOk t := by
  rcases perform_cases h with ⟨e, -, rfl⟩ | ⟨i, -, heffect⟩
  · exact stateOk_raiseError _ hs
  · exact heffect.stateOk hs

/-- Settles O47: the port holds nothing the invariant speaks of, and what is performed keeps it. -/
theorem everyStepKeepsStateOk : Obligations.EveryStepKeepsStateOk := by
  intro s t hs h
  rcases takeRequest_cases s with ⟨-, hnone⟩ | ⟨w, rest, hreq, -⟩
  · rw [step, hnone] at h
    exact Host.Outcome.next.inj h ▸ hs
  · rw [step_of_requests hreq] at h
    exact stateOk_perform (s := { s with requests := rest }) hs h

end Sys2Proof.Machine
end

section
/-! PROOF. Which requests write each register (O44), and CHKERR among them (O43). -/

namespace Sys2Proof.Machine

open Sys2Proof.Safety

/-! ### Where an error or a single result can come from -/

theorem ne_valStart_and_ne_rst {i : Instr} (h : mayRaise (opcodeOfInstr i) ∨ givesOneResult (opcodeOfInstr i)) :
    i ≠ .valStart ∧ i ≠ .rst := by
  constructor <;> (rintro rfl; exact absurd h (by decide))

theorem not_mem_of_givesOneResult {o : Opcode} (h : givesOneResult o) :
    o ∉ [Opcode.nop, .crcInit, .valStart, .valByte, .profSet] := by
  revert h; cases o <;> decide

/-! ### CHKERR (10_state.md R24) -/

/-- STATUS at its reset value. -/
theorem chkerrFlag_zero : chkerrFlag 0#16 = false := by decide

theorem firstMismatch_iff (b : Byte) (s : State) :
    firstMismatch b s = true ↔ b ≠ s.vcrc ∧ chkerrFlag s.status = false := by
  simp [firstMismatch]

/-- All that a request can do to CHKERR: keep it, clear it (VAL_START, RST), or set it (a checksum byte that differs). -/
theorem RequestEffect.chkerr_cases {s t : State} {i : Instr} (h : RequestEffect s i t) :
    (chkerrFlag t.status = chkerrFlag s.status ∧ i ≠ .valStart ∧ i ≠ .rst)
      ∨ (chkerrFlag t.status = false ∧ (i = .valStart ∨ i = .rst))
      ∨ (chkerrFlag s.status = false ∧ ∃ b, i = .valByte b ∧ b ≠ s.vcrc
        ∧ vposField s.status ≠ 0#2 ∧ vposField s.status ≠ 1#2) := by
  cases h with
  | raised e hi => exact .inl ⟨by simp, ne_valStart_and_ne_rst (.inl hi)⟩
  | result v hi => exact .inl ⟨by simp, ne_valStart_and_ne_rst (.inr hi)⟩
  | nop => exact .inl (by simp)
  | rst => exact .inr (.inl ⟨by simp [chkerrFlag_zero], .inr rfl⟩)
  | crcInit => exact .inl (by simp)
  | crcByte b => exact .inl (by simp)
  | valStart => exact .inr (.inl ⟨by simp [startStream], .inl rfl⟩)
  | firstByte b _ => exact .inl (by simp)
  | secondByte b _ => exact .inl (by simp)
  | checksumByte b hv₀ hv₁ =>
    cases hm : firstMismatch b s with
    | false => exact .inl (by simp [hm])
    | true =>
      obtain ⟨hb, hc⟩ := (firstMismatch_iff b s).mp hm
      exact .inr (.inr ⟨hc, b, rfl, hb, hv₀, hv₁⟩)
  | measTh ord => exact .inl (by simp)
  | profSet psel _ => exact .inl (by simp)

/-- The same of a word: an error of decoding keeps CHKERR. -/
theorem perform_chkerr_cases {w : Word} {s t : State} (h : perform w s = .next t) :
    (chkerrFlag t.status = chkerrFlag s.status ∧ decode w ≠ .ok .valStart ∧ decode w ≠ .ok .rst)
      ∨ (chkerrFlag t.status = false ∧ (decode w = .ok .valStart ∨ decode w = .ok .rst))
      ∨ (chkerrFlag s.status = false ∧ ∃ b, decode w = .ok (.valByte b) ∧ b ≠ s.vcrc
        ∧ vposField s.status ≠ 0#2 ∧ vposField s.status ≠ 1#2) := by
  rcases perform_cases h with ⟨e, hd, rfl⟩ | ⟨i, hd, heffect⟩
  · exact .inl (by simp [hd])
  · simpa [hd] using heffect.chkerr_cases

/-- Settles O43, by what a word can do to CHKERR. -/
theorem chkerrIsSticky : Obligations.ChkerrIsSticky := by
  refine ⟨fun _ => chkerrFlag_zero, fun w s t h (hs : chkerrFlag s.status = false) (ht : chkerrFlag t.status = true) => ?_,
    fun w s t h (hs : chkerrFlag s.status = true) => ?_⟩
  · rcases perform_chkerr_cases (step_present w s ▸ h) with ⟨hkeep, -⟩ | ⟨hclear, -⟩ | ⟨-, hset⟩
    · rw [hkeep, hs] at ht; cases ht
    · rw [hclear] at ht; cases ht
    · exact hset
  · change chkerrFlag t.status = false ↔ _
    rcases perform_chkerr_cases (step_present w s ▸ h) with ⟨hkeep, hstart, hrst⟩ | ⟨hclear, hword⟩ | ⟨hs', -⟩
    · simp [hkeep, hs, hstart, hrst]
    · simp [hclear, hword]
    · rw [hs] at hs'; cases hs'

/-! ### The other registers (10_state.md R38) -/

/-- Settles O44, by the effects of the requests. -/
theorem registersAreWrittenOnlyByTheirRequests : Obligations.RegistersAreWrittenOnlyByTheirRequests := by
  intro i s t h
  simp only [extractLsb'_vpos]
  cases RequestEffect.of_exec h with
  | raised e _ => simp
  | result v hi => simpa using fun _ => not_mem_of_givesOneResult hi
  | nop => simp
  | rst => simp [opcodeOfInstr]
  | crcInit => simp [opcodeOfInstr]
  | crcByte b => simp [opcodeOfInstr]
  | valStart => simp [opcodeOfInstr, startStream]
  | firstByte b _ => simp [opcodeOfInstr]
  | secondByte b _ => simp [opcodeOfInstr]
  | checksumByte b _ _ => simp [opcodeOfInstr]
  | measTh ord => simp [opcodeOfInstr]
  | profSet psel _ => simp [opcodeOfInstr]

end Sys2Proof.Machine
end

section
/-! PROOF. The profile rows (O29). -/

namespace Sys2Proof.Machine

theorem profileRow_firstGeneration (p : Config.Params) :
    profileRow p 0#2 = ⟨p.durG1Normal, p.durG1Lp, p.capG1⟩ := rfl

theorem profileRow_secondGeneration (p : Config.Params) :
    profileRow p 1#2 = ⟨p.durG2Normal, p.durG2Lp, p.capG2⟩ := rfl

theorem profileRow_generic (p : Config.Params) :
    profileRow p 2#2 = ⟨maxDur p.durG1Normal p.durG2Normal, maxDur p.durG1Lp p.durG2Lp, true⟩ := rfl

/-- Settles O29, row by row. -/
theorem profileRowsFollowTheParameters : Obligations.ProfileRowsFollowTheParameters := by
  refine ⟨fun s => ⟨fun hsel => ?_, fun hsel => ?_, fun hsel => ?_⟩, rfl, rfl⟩
  · rw [activeProfile, hsel, profileRow_firstGeneration]
  · rw [activeProfile, hsel, profileRow_secondGeneration]
  · rw [activeProfile, hsel, profileRow_generic]
    exact ⟨maxDur_toNat _ _, maxDur_toNat _ _, rfl⟩

end Sys2Proof.Machine
end

section
/-! SUPPORT. What `encode` writes `decode` reads, and the rules of a step and of a run, said once. -/

namespace Sys2Proof

/-- An operand leaves its format's must-be-zero bits zero (30_encoding.md R82). -/
@[simp] theorem argBits_and_mustBeZero (i : Instr) : argBits i &&& mustBeZero (formatOf (opcodeOfInstr i)) = 0#16 := by
  cases i with
  | nop | rst | crcInit | valStart | valCheck | measT | measH | measId => decide
  | regRd f | enc f | encChk f | crcByte f | valByte f | profSet f => revert f; decide
  | crcWord w | convT w | convH w | convId w => exact BitVec.and_zero
  | measTh ord => cases ord <;> decide
  | profDur mode => cases mode <;> decide

/-- A request's opcode and ARG name the request (30_encoding.md R82). -/
@[simp] theorem requestOf_argBits (i : Instr) : requestOf (opcodeOfInstr i) (argBits i) = i := by
  cases i with
  | nop | rst | crcInit | valStart | valCheck | measT | measH | measId => rfl
  | regRd f | enc f | encChk f | crcByte f | valByte f | profSet f => revert f; decide
  | crcWord w | convT w | convH w | convId w => rfl
  | measTh ord => cases ord <;> rfl
  | profDur mode => cases mode <;> rfl

/-- The word of a request decodes to it, a reserved operand too (30_encoding.md R88, R89). -/
@[simp] theorem decode_encode (i : Instr) : decode (encode i) = .ok i := by
  simp [encode, decode_append]

end Sys2Proof

namespace Sys2Proof.Machine

theorem perform_encode (i : Instr) (s : State) : perform (encode i) s = exec i s := perform_ok (decode_encode i) s

/-- THE INVERSION OF `step`: the block is idle, or performs the word at the port with that word taken. -/
theorem step_cases {s t : State} (h : step s = .next t) :
    (s.requests = [] ∧ t = s)
      ∨ ∃ w rest, s.requests = w :: rest ∧ perform w { s with requests := rest } = .next t := by
  rcases takeRequest_cases s with ⟨hreq, hnone⟩ | ⟨w, rest, hreq, -⟩
  · rw [step, hnone] at h
    exact .inl ⟨hreq, (Host.Outcome.next.inj h).symm⟩
  · exact .inr ⟨w, rest, hreq, step_of_requests hreq ▸ h⟩

/-- A run does the first request and then the others (70_reset_and_hazards.md R273). -/
theorem runProgram_encode_cons {i : Instr} {ws : List Word} {s t u : State} {observed : List (Word × Word × Half)}
    (hfirst : exec i s = .next t) (hrest : runProgram ws t = .next (observed, u)) :
    runProgram (encode i :: ws) s = .next (response t :: observed, u) := by
  rw [runProgram, perform_encode, hfirst]
  simp only [hrest]

end Sys2Proof.Machine
end

section
/-! PROOF. The CRC register along a list of bytes, and CRC_WORD against it (O12). -/

namespace Sys2Proof.Machine

/-- The block after one CRC_BYTE (41_crc.md R133). -/
theorem exec_crcByte (b : Byte) (s : State) : exec (.crcByte b) s =
    .next { finishRes0 ((crc8Step s.crc b).setWidth 32) s with crc := crc8Step s.crc b } := rfl

/-- A list of CRC_BYTE requests folds the list into CRC, and RES0 is CRC if there was a byte or it was so before. -/
theorem runProgram_crcBytes (bytes : List Byte) (s : State) : ∃ observed t,
    runProgram ((bytes.map Instr.crcByte).map encode) s = .next (observed, t)
      ∧ t.crc = crc8From s.crc bytes
      ∧ (bytes ≠ [] ∨ s.res0 = s.crc.setWidth 32 → t.res0 = t.crc.setWidth 32) := by
  induction bytes generalizing s with
  | nil => exact ⟨[], s, rfl, rfl, by simp⟩
  | cons b rest ih =>
    obtain ⟨observed, t, hrun, hcrc, hres⟩ :=
      ih { finishRes0 ((crc8Step s.crc b).setWidth 32) s with crc := crc8Step s.crc b }
    exact ⟨_, t, runProgram_encode_cons (exec_crcByte b s) hrun, hcrc, fun _ => hres (.inr rfl)⟩

/-- `CRCS` of a list leaves its crc8 in CRC, and in RES0 if there was a byte (30_encoding.md R90, 41_crc.md R133). -/
theorem runProgram_crcs (bytes : List Byte) (s : State) : ∃ observed t,
    runProgram ((crcs bytes).map encode) s = .next (observed, t)
      ∧ t.crc = crc8 bytes ∧ (bytes ≠ [] → t.res0 = t.crc.setWidth 32) := by
  obtain ⟨observed, t, hrun, hcrc, hres⟩ := runProgram_crcBytes bytes { finishOk s with crc := 0xFF#8 }
  exact ⟨_, t, runProgram_encode_cons (i := .crcInit) rfl hrun, hcrc, fun h => hres (.inl h)⟩

/-- Settles O12: both give the crc8 of the word's two bytes. -/
theorem crcWordAgreesWithTheByteRequests : Obligations.CrcWordAgreesWithTheByteRequests := by
  intro w s
  obtain ⟨observed, u, hrun, hcrc, hres⟩ := runProgram_crcs [firstByte w, secondByte w] s
  have hres0 : u.res0 = u.crc.setWidth 32 := hres (by simp)
  refine ⟨finishRes0 ((crc8 [firstByte w, secondByte w]).setWidth 32) s, observed, u, rfl, hrun, ?_, rfl, hres0.symm⟩
  rw [finishRes0_res0, hres0, hcrc]

end Sys2Proof.Machine
end

section
/-! PROOF. The build-time parameters and the views of the active profile under every step (O45). -/

namespace Sys2Proof.Machine

/-- No request writes a parameter, RST neither (20_memory.md R69). -/
theorem RequestEffect.params_eq {s t : State} {i : Instr} (h : RequestEffect s i t) : t.params = s.params := by
  cases h with
  | raised | result | nop | crcInit | crcByte | valStart | measTh | profSet => rfl
  | rst => exact blockReset_params s
  | firstByte b => exact takeFirst_params b s
  | secondByte b => exact takeSecond_params b s
  | checksumByte b => exact takeChecksum_params b s

theorem perform_params_eq {w : Word} {s t : State} (h : perform w s = .next t) : t.params = s.params := by
  rcases perform_cases h with ⟨e, -, rfl⟩ | ⟨i, -, heffect⟩
  · exact raiseError_params _ s
  · exact heffect.params_eq

theorem step_params_eq {s t : State} (h : step s = .next t) : t.params = s.params := by
  rcases step_cases h with ⟨-, rfl⟩ | ⟨w, rest, -, hperform⟩
  · rfl
  · exact perform_params_eq (s := { s with requests := rest }) hperform

/-- The active profile is read from the parameters and PROF_SEL alone (10_state.md R36). -/
theorem activeProfile_congr {s t : State} (hparams : t.params = s.params) (hsel : t.profSel = s.profSel) :
    activeProfile t = activeProfile s := by
  rw [activeProfile, activeProfile, hparams, hsel]

/-- Settles O45: no step writes a parameter, and the views follow them and PROF_SEL. -/
theorem buildTimeConstantsNeverChange : Obligations.BuildTimeConstantsNeverChange := fun _ _ h =>
  ⟨step_params_eq h, activeProfile_congr (step_params_eq h)⟩

end Sys2Proof.Machine
end

section
/-! PROOF. A step runs the decoded request (O38). -/

namespace Sys2Proof.Machine

/-- Settles O38: the step performs the word with that word taken, and performing it is `exec` of what it decodes to. -/
theorem stepRunsTheDecodedRequest : Obligations.StepRunsTheDecodedRequest := by
  intro w rest i s hreq hdecode _
  rw [step_of_requests hreq, perform_ok hdecode]

end Sys2Proof.Machine
end

section
/-! SUPPORT. The opcode table's rows against the decoder: what matching a row says of the fields, each answer of `decode`
as an `↔`, and the argument bits of a decoded request. -/

namespace Sys2Proof

open Sys2Proof.Safety
open Sys2Proof.Laws.EncodesToItsRow (rowMask_eq rowMatch_eq)

theorem append_fields_inj {op op' rsv rsv' : Byte} {arg arg' : Half} (h : op ++ rsv ++ arg = op' ++ rsv' ++ arg') :
    op = op' ∧ rsv = rsv' ∧ arg = arg' :=
  ⟨by simpa using congrArg opField h, by simpa using congrArg rsvField h, by simpa using congrArg argField h⟩

/-- A word matches a row when OP is the row's, RSV is zero and the format's must-be-zero bits are (R88). -/
theorem and_rowMask_eq_rowMatch_iff (w : Word) (o : Opcode) : w &&& rowMask o = rowMatch o ↔
    opField w = opBits o ∧ rsvField w = 0#8 ∧ argField w &&& mustBeZero (formatOf o) = 0#16 := by
  have hand : w &&& rowMask o = opField w ++ rsvField w ++ (argField w &&& mustBeZero (formatOf o)) := by
    conv_lhs => rw [word_eq_fields w]
    rw [rowMask_eq, BitVec.and_append, BitVec.and_append, show (0xFF#8 : Byte) = BitVec.allOnes 8 from rfl,
      BitVec.and_allOnes, BitVec.and_allOnes]
  rw [hand, rowMatch_eq]
  exact ⟨append_fields_inj, fun ⟨hop, hrsv, harg⟩ => by rw [hop, hrsv, harg]⟩

@[simp] theorem opField_rowMatch (o : Opcode) : opField (rowMatch o) = opBits o := by rw [rowMatch_eq, opField_append]

/-! ### The opcode map both ways (30_encoding.md R83, R84) -/

theorem opcodeOf_eq_some_iff {op : Byte} {o : Opcode} : opcodeOf op = some o ↔ opBits o = op :=
  ⟨opBits_of_opcodeOf, fun h => h ▸ opcodeOf_opBits o⟩

theorem opcodeOf_eq_none_iff {op : Byte} : opcodeOf op = none ↔ ∀ o, opBits o ≠ op := by
  rw [Option.eq_none_iff_forall_ne_some]
  exact forall_congr' fun o => not_congr opcodeOf_eq_some_iff

theorem opBits_injective : Function.Injective opBits := fun o o' h =>
  Option.some.inj (by rw [← opcodeOf_opBits o, h, opcodeOf_opBits])

/-! ### The three answers of `decode` (30_encoding.md R88) -/

theorem decode_eq_illegalOp_iff (w : Word) :
    decode w = .error .illegalOp ↔ rsvField w ≠ 0#8 ∨ ∀ o, opBits o ≠ opField w := by
  rw [← opcodeOf_eq_none_iff]
  rcases decode_cases w with ⟨hd, hw⟩ | ⟨o, hrsv, hop, ⟨hd, -⟩ | ⟨hd, -⟩⟩
  · simp [hd, hw]
  · simp [hd, hrsv, hop]
  · simp [hd, hrsv, hop]

/-- A word is a request when it matches a row, and then it is that row's request on its ARG. -/
theorem decode_eq_ok_iff (w : Word) (i : Instr) :
    decode w = .ok i ↔ ∃ o, w &&& rowMask o = rowMatch o ∧ requestOf o (argField w) = i := by
  simp only [and_rowMask_eq_rowMatch_iff]
  constructor
  · intro h
    rcases decode_cases w with ⟨hd, -⟩ | ⟨o, hrsv, hop, ⟨hd, -⟩ | ⟨hd, harg⟩⟩
    · rw [hd] at h; cases h
    · rw [hd] at h; cases h
    · exact ⟨o, ⟨(opBits_of_opcodeOf hop).symm, hrsv, harg⟩, Except.ok.inj (hd ▸ h)⟩
  · rintro ⟨o, ⟨hop, hrsv, harg⟩, rfl⟩
    simp [decode, hop, hrsv, harg]

/-! ### The argument bits of a decoded request (30_encoding.md R82) -/

/-- How many low bits of ARG a format's operand takes. -/
def operandWidth : Format → Nat
  | .z => 0
  | .r4 => 4
  | .s4 => 4
  | .b8 => 8
  | .w16 => 16
  | .o1 => 1
  | .p2 => 2
  | .m1 => 1

theorem mustBeZero_eq_shiftLeft (f : Format) : mustBeZero f = BitVec.allOnes 16 <<< operandWidth f := by
  cases f <;> decide

@[simp] theorem orderBit_orderOfBit : ∀ b : BitVec 1, orderBit (orderOfBit b) = b := by decide

@[simp] theorem modeBit_modeOfBit : ∀ b : BitVec 1, modeBit (modeOfBit b) = b := by decide

theorem argBits_requestOf (o : Opcode) (arg : Half) :
    argBits (requestOf o arg) = (arg.extractLsb' 0 (operandWidth (formatOf o))).setWidth 16 := by
  cases o with
  | nop | rst | crcInit | valStart | valCheck | measT | measH | measId =>
    exact (congrArg (BitVec.setWidth 16) (Subsingleton.elim (arg.extractLsb' 0 0) 0#0)).symm
  | regRd | enc | encChk | crcByte | valByte | profSet => rfl
  | crcWord | convT | convH | convId | measTh | profDur => simp [requestOf, argBits, formatOf, operandWidth]

/-- An ARG with no bit from `k` on is its low `k` bits. -/
theorem setWidth_extractLsb'_of_and_shiftLeft {arg : Half} {k : Nat} (h : arg &&& (BitVec.allOnes 16 <<< k) = 0#16) :
    (arg.extractLsb' 0 k).setWidth 16 = arg := by
  ext n hn
  by_cases hk : n < k
  · simp [hk, BitVec.getLsbD_eq_getElem hn]
  · have hbit : (arg &&& (BitVec.allOnes 16 <<< k))[n] = (0#16)[n] := by rw [h]
    have hones : (BitVec.allOnes 16 <<< k)[n] = true := by
      rw [BitVec.getElem_shiftLeft, BitVec.getElem_allOnes]; simp [hk]
    rw [BitVec.getElem_and, hones] at hbit
    simpa [hk] using hbit.symm

/-- A request decoded from an argument that leaves the format's must-be-zero bits zero has its word's ARG. -/
theorem encode_requestOf {o : Opcode} {arg : Half} (h : arg &&& mustBeZero (formatOf o) = 0#16) :
    encode (requestOf o arg) = opBits o ++ 0#8 ++ arg := by
  rw [encode, opcodeOfInstr_requestOf, argBits_requestOf,
    setWidth_extractLsb'_of_and_shiftLeft (mustBeZero_eq_shiftLeft _ ▸ h)]

/-- The word that decodes to a request is the request's word (30_encoding.md R89). -/
theorem encode_of_decode {w : Word} {i : Instr} (h : decode w = .ok i) : encode i = w := by
  obtain ⟨o, hrow, rfl⟩ := (decode_eq_ok_iff w i).mp h
  obtain ⟨hop, hrsv, harg⟩ := (and_rowMask_eq_rowMatch_iff w o).mp hrow
  rw [encode_requestOf harg, ← hop, ← hrsv, ← word_eq_fields]

end Sys2Proof
end

section
/-! PROOF. Encoding and decoding: the round trip (O33), the table's rows (O34), written words (O32). -/

namespace Sys2Proof.Machine

open Sys2Proof.Safety

/-- Settles O33: OP names the request's opcode, and ARG its operand. -/
theorem decodeOfEncodeIsTheRequest : Obligations.DecodeOfEncodeIsTheRequest := decode_encode

/-- Settles O34: matching a row fixes OP, so at most one row matches, and `decode` answers that row's request. -/
theorem decodingFollowsTheOpcodeTable : Obligations.DecodingFollowsTheOpcodeTable := by
  refine ⟨fun w => ?_, fun w o o' h h' => ?_, fun w i h => ?_⟩
  · simp only [decode_eq_ok_iff]
    exact ⟨fun ⟨_, o, hrow, _⟩ => ⟨o, hrow⟩, fun ⟨o, hrow⟩ => ⟨_, o, hrow, rfl⟩⟩
  · obtain ⟨hop, -⟩ := (and_rowMask_eq_rowMatch_iff w o).mp h
    obtain ⟨hop', -⟩ := (and_rowMask_eq_rowMatch_iff w o').mp h'
    exact opBits_injective (hop.symm.trans hop')
  · refine ⟨?_, encode_of_decode h⟩
    obtain ⟨o, hrow, rfl⟩ := (decode_eq_ok_iff w i).mp h
    rwa [opcodeOfInstr_requestOf]

/-- Settles O32: each word is its request's. -/
theorem writtenWordsDecode : Obligations.WrittenWordsDecode :=
  ⟨decode_encode .nop, decode_encode (.regRd 0xB#4), decode_encode (.enc 0x8#4), decode_encode (.crcByte 0xBE#8),
    decode_encode (.valByte 0xC7#8), decode_encode (.convT 0x648B#16), decode_encode (.measTh .humidityFirst),
    decode_encode (.profDur .lowPower)⟩

end Sys2Proof.Machine
end

section
/-! PROOF. Reserved field values (O37) and the order of decoding (O36). -/

namespace Sys2Proof.Machine

open Sys2Proof.Safety

/-- A reserved REG, SEL or PSEL is an error of the request's own first test (30_encoding.md R85, R87). -/
theorem exec_of_not_wellFormed {i : Instr} (h : wellFormed i = false) (s : State) :
    exec i s = .next (raiseError .illegalArg s) := by
  cases i with
  | regRd reg =>
    have hnone : readRegister s reg = none := (readRegister_none_iff s reg).mpr (by simpa [wellFormed] using h)
    simp [exec, execRegRd, hnone]
  | enc sel =>
    have hnone : opcodeRom sel = none := (opcodeRom_none_iff sel).mpr (by simpa [wellFormed] using h)
    simp [exec, execEnc, hnone]
  | encChk sel =>
    have hnone : opcodeRom sel = none := (opcodeRom_none_iff sel).mpr (by simpa [wellFormed] using h)
    simp [exec, execEncChk, hnone]
  | profSet psel =>
    have hreserved : pselReserved psel = true := by simpa [wellFormed] using h
    simp [exec, execProfSet, hreserved]
  | nop | rst | crcInit | crcByte | crcWord | valStart | valByte | valCheck | convT | convH | convId => cases h
  | measT | measH | measId | measTh | profDur => cases h

/-- Settles O37, by what a request that is not well formed does. -/
theorem reservedFieldValuesRaiseIllegalArg : Obligations.ReservedFieldValuesRaiseIllegalArg := fun _ s h =>
  ⟨_, exec_of_not_wellFormed h s, endsWith_raiseError .illegalArg s⟩

/-- A word that names no request takes its error as a step, and nothing else of the block changes (R232). -/
theorem step_present_of_decode_error {w : Word} {e : DecodeError} (h : decode w = .error e) (s : State) :
    ∃ t, step (present w s) = .next t ∧ EndsWith (errBits (decodeErrCode e)) s t :=
  ⟨_, by rw [step_present, perform_error h], endsWith_raiseError _ s⟩

/-- Settles O36: the three tests are the three answers of `decode`, in order. -/
theorem everyWordIsDecodedInOrder : Obligations.EveryWordIsDecodedInOrder := by
  intro w s
  have hillegalOp : (w.extractLsb' 16 8 ≠ 0#8 ∨ ∀ o ∈ allOpcodes, (rowMatch o).extractLsb' 24 8 ≠ w.extractLsb' 24 8)
      ↔ decode w = .error .illegalOp := by
    change (rsvField w ≠ 0#8 ∨ ∀ o ∈ allOpcodes, opField (rowMatch o) ≠ opField w) ↔ _
    simp only [decode_eq_illegalOp_iff, opField_rowMatch, mem_allOpcodes, forall_const]
  have hnoRow : (∀ o ∈ allOpcodes, w &&& rowMask o ≠ rowMatch o) ↔ ∀ i, decode w ≠ .ok i := by
    simp [decode_eq_ok_iff, mem_allOpcodes]
  cases hd : decode w with
  | error e =>
    cases e with
    | illegalOp =>
      rw [if_pos (hillegalOp.mpr hd)]
      exact step_present_of_decode_error hd s
    | illegalArg =>
      rw [if_neg (mt hillegalOp.mp (by simp [hd])), if_pos (hnoRow.mpr (by simp [hd]))]
      exact step_present_of_decode_error hd s
  | ok i =>
    rw [if_neg (mt hillegalOp.mp (by simp [hd])), if_neg (mt hnoRow.mp (by simp [hd]))]
    exact ⟨i, rfl, by rw [step_present, perform_ok hd], reservedFieldValuesRaiseIllegalArg i s⟩

end Sys2Proof.Machine
end

section
/-! PROOF. Reserved opcodes, and NOP as the only no-op (O35). -/

namespace Sys2Proof.Machine

open Sys2Proof.Safety

/-- OP in the ranges that 30_encoding.md R84 reserves. -/
def OpReserved (op : Byte) : Prop :=
  (0x03 ≤ op.toNat ∧ op.toNat ≤ 0x0F) ∨ (0x12 ≤ op.toNat ∧ op.toNat ≤ 0x1F)
    ∨ (0x23 ≤ op.toNat ∧ op.toNat ≤ 0x2F) ∨ (0x33 ≤ op.toNat ∧ op.toNat ≤ 0x3F)
    ∨ (0x43 ≤ op.toNat ∧ op.toNat ≤ 0x47) ∨ (0x4C ≤ op.toNat ∧ op.toNat ≤ 0x4F) ∨ 0x52 ≤ op.toNat

/-- No request has a reserved OP (30_encoding.md R83, R84). -/
theorem not_opReserved_opBits (o : Opcode) : ¬ OpReserved (opBits o) := by
  unfold OpReserved; cases o <;> decide

theorem decode_of_opReserved {op : Byte} (h : OpReserved op) (rsv : Byte) (arg : Half) :
    decode (op ++ rsv ++ arg) = .error .illegalOp := by
  refine (decode_eq_illegalOp_iff _).mpr (.inr fun o ho => not_opReserved_opBits o ?_)
  rwa [ho, opField_append]

/-! ### Every request but NOP shows in some state -/

/-- The request does something other than clear ERR in some state. -/
def Shows (i : Instr) : Prop := ∃ s t, exec i s = .next t ∧ ¬ EndsWith 0#4 s t

/-- Ending with ERR written leaves VPOS, which is not of ERR's bits (10_state.md R22). -/
theorem vposField_of_endsWith {e : BitVec 4} {s t : State} (h : EndsWith e s t) :
    vposField t.status = vposField s.status := by
  obtain ⟨st, ⟨-, hrest⟩, rfl⟩ := h
  have hvpos : ∀ x : Half, vposField x = (x.extractLsb' 4 12).extractLsb' 1 2 := fun x => by
    unfold vposField; ext n hn; simp; grind
  rw [hvpos, hvpos, hrest]

/-- CRC and VGROUPS away from the values that CRC_INIT and VAL_START load, and in RES0 a value that no request gives. -/
def markedState : State := { State.reset with crc := 0x00#8, vgroups := 1#16, res0 := 0x80000000#32 }

theorem Shows.of_raiseError {i : Instr} {s : State} {e : ErrCode} (h : exec i s = .next (raiseError e s))
    (he : e ≠ .ok) : Shows i :=
  ⟨s, _, h, fun hend => errBits_ne_zero he (by simpa using endsWith_err hend)⟩

theorem Shows.of_not_wellFormed {i : Instr} (h : wellFormed i = false) : Shows i :=
  .of_raiseError (exec_of_not_wellFormed h markedState) (by decide)

/-- A request shows by any register `f` but STATUS. -/
theorem Shows.of_register {α : Type} (f : State → α) (hf : ∀ s st, f { s with status := st } = f s) {i : Instr}
    {s t : State} (h : exec i s = .next t) (hne : f t ≠ f s) : Shows i := by
  refine ⟨s, t, h, ?_⟩
  rintro ⟨st, -, rfl⟩
  exact hne (hf s st)

theorem Shows.of_finishRes0 {i : Instr} {v : Word} (h : exec i markedState = .next (finishRes0 v markedState))
    (hv : v ≠ 0x80000000#32) : Shows i :=
  .of_register State.res0 (fun _ _ => rfl) h hv

/-! No request gives the value that `markedState` holds in RES0. -/

theorem setWidth_ne_marked {n : Nat} (hn : n ≤ 16) (x : BitVec n) : x.setWidth 32 ≠ 0x80000000#32 := by
  intro h
  have hbit : (x.setWidth 32).getLsbD 31 = true := by rw [h]; rfl
  have hlt : x.getLsbD 31 = true := by simpa using hbit
  rw [BitVec.getLsbD_of_ge x 31 (by omega)] at hlt
  cases hlt

theorem convT_ne_marked (raw : Half) : convT raw ≠ 0x80000000#32 := by
  have hscaled : ((raw.setWidth 32 * 21875#32) >>> 13).toNat ≤ 174998 := by
    have hlt := raw.isLt
    have hproduct : (raw.setWidth 32 * 21875#32).toNat = raw.toNat * 21875 := by
      simp only [BitVec.toNat_mul, BitVec.toNat_setWidth, BitVec.toNat_ofNat]
      omega
    rw [BitVec.toNat_ushiftRight, hproduct, Nat.shiftRight_eq_div_pow]
    omega
  intro h
  rw [convT, sub_eq_iff_eq_add] at h
  rw [h] at hscaled
  exact absurd hscaled (by decide)

theorem convH_ne_marked (raw : Half) : convH raw ≠ 0x80000000#32 := by
  intro h
  have hle := convH_toNat_le raw
  rw [h] at hle
  exact absurd hle (by decide)

theorem readRegister_markedState_ne : ∀ reg : BitVec 4, readRegister markedState reg ≠ some 0x80000000#32 := by decide

theorem shows_regRd (reg : BitVec 4) : Shows (.regRd reg) := by
  cases hv : readRegister markedState reg with
  | none => exact .of_not_wellFormed (by simp [wellFormed, (readRegister_none_iff markedState reg).mp hv])
  | some v =>
    refine .of_finishRes0 (v := v) (by rw [exec, execRegRd, hv]) ?_
    rintro rfl
    exact readRegister_markedState_ne reg hv

theorem shows_enc (sel : BitVec 4) : Shows (.enc sel) := by
  cases hv : opcodeRom sel with
  | none => exact .of_not_wellFormed (by simp [wellFormed, (opcodeRom_none_iff sel).mp hv])
  | some op => exact .of_finishRes0 (by rw [exec, execEnc, hv]) (setWidth_ne_marked (by decide) op)

/-- The generic profile has the sleep capability, so ENC_CHK answers as ENC does (40_encoder.md R114). -/
theorem shows_encChk (sel : BitVec 4) : Shows (.encChk sel) := by
  have hcap : (activeProfile markedState).sleepCap = true := rfl
  cases hv : opcodeRom sel with
  | none => exact .of_not_wellFormed (by simp [wellFormed, (opcodeRom_none_iff sel).mp hv])
  | some op => exact .of_finishRes0 (by simp [exec, execEncChk, hv, hcap]) (setWidth_ne_marked (by decide) op)

/-- PROF_SET shows where another profile is active. -/
theorem shows_profSet (psel : BitVec 2) : Shows (.profSet psel) := by
  cases hp : pselReserved psel with
  | true => exact .of_not_wellFormed (by simp [wellFormed, hp])
  | false =>
    have hne : ∀ p : BitVec 2, p ≠ if p = 0#2 then 1#2 else 0#2 := by decide
    exact .of_register State.profSel (fun _ _ => rfl)
      (s := { markedState with profSel := if psel = 0#2 then 1#2 else 0#2 })
      (by rw [exec, execProfSet, hp, if_neg Bool.false_ne_true]) (hne psel)

theorem shows_of_ne_nop {i : Instr} (h : i ≠ .nop) : Shows i := by
  cases i with
  | nop => exact absurd rfl h
  | rst => exact .of_register State.res0 (fun _ _ => rfl) (s := markedState) rfl (by decide)
  | regRd reg => exact shows_regRd reg
  | enc sel => exact shows_enc sel
  | encChk sel => exact shows_encChk sel
  | crcInit => exact .of_register State.crc (fun _ _ => rfl) (s := markedState) rfl (by decide)
  | crcByte b =>
    exact .of_register State.res0 (fun _ _ => rfl) (s := markedState) rfl
      (setWidth_ne_marked (by decide) (crc8Step 0x00#8 b))
  | crcWord w => exact .of_finishRes0 rfl (setWidth_ne_marked (by decide) _)
  | valStart => exact .of_register State.vgroups (fun _ _ => rfl) (s := markedState) rfl (by decide)
  | valByte b =>
    refine ⟨markedState, finishOk (takeFirst b markedState), rfl, fun hend => absurd (vposField_of_endsWith hend) ?_⟩
    rw [finishOk_status, vposField_setErr, takeFirst_status, vposField_setVpos]
    decide
  | valCheck => exact .of_finishRes0 rfl (setWidth_ne_marked (by decide) _)
  | convT raw => exact .of_finishRes0 rfl (convT_ne_marked raw)
  | convH raw => exact .of_finishRes0 rfl (convH_ne_marked raw)
  | convId raw => exact .of_finishRes0 rfl (setWidth_ne_marked (by decide) _)
  | measT => exact .of_finishRes0 rfl (convT_ne_marked _)
  | measH => exact .of_finishRes0 rfl (convH_ne_marked _)
  | measId => exact .of_finishRes0 rfl (setWidth_ne_marked (by decide) _)
  | measTh ord => exact .of_raiseError (s := markedState) (e := .noData) rfl (by decide)
  | profSet psel => exact shows_profSet psel
  | profDur mode => exact .of_finishRes0 rfl (setWidth_ne_marked (by decide) _)

/-- Settles O35: no row has a reserved OP; a word that raises no error is a request's, and all but NOP show. -/
theorem reservedOpcodesRaiseIllegalOp : Obligations.ReservedOpcodesRaiseIllegalOp := by
  refine ⟨fun op rsv arg s hop => step_present_of_decode_error (decode_of_opReserved hop rsv arg) s, fun w h => ?_⟩
  cases hd : decode w with
  | error e =>
    obtain ⟨t, ht, hend⟩ := h State.reset
    obtain ⟨t', ht', hend'⟩ := step_present_of_decode_error hd State.reset
    have hcode : errBits (decodeErrCode e) = 0#4 := by
      rw [← endsWith_err hend', ← endsWith_err hend, Host.Outcome.next.inj (ht.symm.trans ht')]
    cases e <;> exact absurd hcode (by decide)
  | ok i =>
    by_cases hi : i = .nop
    · subst hi
      exact (encode_of_decode hd).symm
    · obtain ⟨s, t, hexec, hshows⟩ := shows_of_ne_nop hi
      obtain ⟨t', ht', hend⟩ := h s
      rw [step_present, perform_ok hd, hexec] at ht'
      exact absurd (Host.Outcome.next.inj ht' ▸ hend) hshows

end Sys2Proof.Machine
end

section
/-! PROOF. The opcode ROM (O7). -/

namespace Sys2Proof.Machine

theorem opcodeRom_commandSel (c : Command) : opcodeRom (commandSel c) = some (sensorOpcode c) := by
  rw [opcodeRom, selCommand_commandSel]; rfl

theorem mem_allCommands (c : Command) : c ∈ allCommands := by
  cases c with
  | sleep | wakeUp | softwareReset | readIdRegister => decide
  | measure mode order stretch => cases mode <;> cases order <;> cases stretch <;> decide

/-- The table of 30_encoding.md R86 read backwards. -/
theorem commandOfOpcode_sensorOpcode (c : Command) : commandOfOpcode (sensorOpcode c) = some c :=
  (by decide : ∀ c ∈ allCommands, commandOfOpcode (sensorOpcode c) = some c) c (mem_allCommands c)

theorem sensorOpcode_injective : Function.Injective sensorOpcode := fun c c' h =>
  Option.some.inj (by rw [← commandOfOpcode_sensorOpcode c, h, commandOfOpcode_sensorOpcode])

/-- The residue of 95_test_vectors.md section 2.1. -/
theorem crc8_sensorOpcode (c : Command) : crc8 [firstByte (sensorOpcode c), secondByte (sensorOpcode c)] = 0x90#8 :=
  (by decide +kernel : ∀ c ∈ allCommands, crc8 [firstByte (sensorOpcode c), secondByte (sensorOpcode c)] = 0x90#8)
    c (mem_allCommands c)

/-- The SEL bits of a Measure are its parameters (30_encoding.md R86). -/
theorem commandSel_measure_bits (mode : PowerMode) (order : Order) (stretch : Bool) :
    (commandSel (.measure mode order stretch)).getLsbD 3 = true
      ∧ ((commandSel (.measure mode order stretch)).getLsbD 2 = true ↔ mode = .lowPower)
      ∧ ((commandSel (.measure mode order stretch)).getLsbD 1 = true ↔ order = .humidityFirst)
      ∧ (commandSel (.measure mode order stretch)).getLsbD 0 = stretch := by
  cases mode <;> cases order <;> cases stretch <;> decide

/-- Settles O7: each Command's row of the ROM, and the Command back from its opcode. -/
theorem opcodeRomServesEveryCommand : Obligations.OpcodeRomServesEveryCommand :=
  ⟨opcodeRom_commandSel, commandSel_measure_bits, fun _ _ h => sensorOpcode_injective h, crc8_sensorOpcode⟩

end Sys2Proof.Machine
end

section
/-! SUPPORT. What each word of one request opcode does (`WordRuns`): the three tests of decoding in order, said once for
every request. -/

namespace Sys2Proof

/-- The must-be-zero bits of a format are zero when ARG fits in its operand (30_encoding.md R82). -/
theorem and_mustBeZero_eq_zero_iff (arg : Half) (f : Format) :
    arg &&& mustBeZero f = 0#16 ↔ arg.toNat < 2 ^ operandWidth f := by
  rw [mustBeZero_eq_shiftLeft]
  constructor
  · intro h
    rw [← setWidth_extractLsb'_of_and_shiftLeft h, BitVec.toNat_setWidth]
    exact (Nat.mod_le _ _).trans_lt (BitVec.isLt _)
  · intro h
    ext n hn
    by_cases hk : n < operandWidth f
    · simp [hk]
    · have hbit : arg.toNat.testBit n = false :=
        Nat.testBit_lt_two_pow (h.trans_le (Nat.pow_le_pow_right (by decide) (by omega)))
      simp [BitVec.getElem_eq_testBit_toNat, hbit]

end Sys2Proof

namespace Sys2Proof.Machine

open Sys2Proof.Safety

/-- An argument is legal when it leaves the must-be-zero bits zero and its field holds no reserved value. Of the others,
decoding (30_encoding.md R88) or the request itself (R85) raises ILLEGAL_ARG. -/
theorem wordRuns_of_legal_iff {o : Opcode} {legal : Half → Bool}
    (hlegal : ∀ arg, legal arg = true ↔
      arg &&& mustBeZero (formatOf o) = 0#16 ∧ wellFormed (requestOf o arg) = true) :
    WordRuns (opBits o) legal (requestOf o) := by
  intro rsv arg s
  by_cases hrsv : rsv = 0#8
  · subst hrsv
    rw [if_neg (not_not_intro rfl)]
    by_cases hzero : arg &&& mustBeZero (formatOf o) = 0#16
    · have hdecode : decode (opBits o ++ 0#8 ++ arg) = .ok (requestOf o arg) := by simp [decode_append, hzero]
      rw [step_present, perform_ok hdecode]
      cases hwf : wellFormed (requestOf o arg) with
      | true => rw [if_pos ((hlegal arg).mpr ⟨hzero, hwf⟩)]
      | false =>
        rw [if_neg (by simp [hlegal, hwf])]
        exact reservedFieldValuesRaiseIllegalArg _ s hwf
    · rw [if_neg (by simp [hlegal, hzero])]
      exact step_present_of_decode_error (e := .illegalArg) (by simp [decode_append, hzero]) s
  · rw [if_pos hrsv]
    exact step_present_of_decode_error (e := .illegalOp) (by simp [decode_append, hrsv]) s

end Sys2Proof.Machine
end

section
/-! PROOF. The command encoder: ENC (O5) and ENC_CHK (O6). -/

namespace Sys2Proof.Machine

open Sys2Proof.Safety

/-! ### SEL (30_encoding.md R86, R87) -/

/-- The ROM holds the table of 30_encoding.md R86. -/
theorem opcodeRom_of_mem_sensorTable : ∀ e ∈ sensorTable, opcodeRom e.1 = some e.2 := by
  have hrows : sensorTable.all (fun e => opcodeRom e.1 == some e.2) = true := by decide
  simpa using hrows

theorem mem_reservedSels_iff (sel : BitVec 4) : sel ∈ [0x4#4, 0x5#4, 0x6#4, 0x7#4] ↔ selReserved sel = true := by
  simp [selReserved, or_assoc]

theorem selReserved_eq_false_iff : ∀ sel : BitVec 4,
    selReserved sel = false ↔ sel.toNat < 4 ∨ 8 ≤ sel.toNat := by decide

theorem needsSleepCap_iff (sel : BitVec 4) : needsSleepCap sel = true ↔ sel = 0x0#4 ∨ sel = 0x1#4 := by
  simp [needsSleepCap]

/-- A legal S4 argument has its upper bits zero and a SEL that is not reserved. -/
theorem selArgLegal_iff (arg : Half) : selArgLegal arg = true ↔
    arg &&& mustBeZero .s4 = 0#16 ∧ (!selReserved (arg.extractLsb' 0 4)) = true := by
  rw [and_mustBeZero_eq_zero_iff, Bool.not_eq_true', selReserved_eq_false_iff]
  simp only [selArgLegal, operandWidth, Bool.and_eq_true, Bool.or_eq_true, decide_eq_true_eq, BitVec.extractLsb'_toNat,
    Nat.shiftRight_zero]
  omega

/-! ### The two requests where SEL names a Command -/

/-- ENC looks at nothing but the ROM (40_encoder.md R113). -/
theorem exec_enc {sel : BitVec 4} {op : Half} (h : opcodeRom sel = some op) (s : State) :
    exec (.enc sel) s = .next (finishRes0 (op.setWidth 32) s) := by
  rw [exec, execEnc, h]

/-- ENC_CHK answers as ENC where SEL needs no sleep capability or the active profile has it (40_encoder.md R114). -/
theorem exec_encChk {sel : BitVec 4} {op : Half} {s : State} (h : opcodeRom sel = some op)
    (hcap : needsSleepCap sel = false ∨ (activeProfile s).sleepCap = true) :
    exec (.encChk sel) s = .next (finishRes0 (op.setWidth 32) s) := by
  rcases hcap with hcap | hcap <;> simp [exec, execEncChk, h, hcap]

/-- Sleep and WakeUp without the capability are UNSUPPORTED (40_encoder.md R112, R114). -/
theorem exec_encChk_unsupported {sel : BitVec 4} {op : Half} {s : State} (h : opcodeRom sel = some op)
    (hneeds : needsSleepCap sel = true) (hcap : (activeProfile s).sleepCap = false) :
    exec (.encChk sel) s = .next (raiseError .unsupported s) := by
  simp [exec, execEncChk, h, hneeds, hcap]

/-! ### The statements -/

/-- Settles O5: the ROM is the table, and a reserved SEL is a reserved field value. -/
theorem encGivesTheTablesSensorOpcode : Obligations.EncGivesTheTablesSensorOpcode := by
  refine ⟨fun s e he => ?_, fun s sel hsel => ?_, wordRuns_of_legal_iff (o := .enc) selArgLegal_iff⟩
  · exact ⟨_, exec_enc (opcodeRom_of_mem_sensorTable e he) s, endsWith_finishRes0 _ s⟩
  · exact reservedFieldValuesRaiseIllegalArg _ s (by simp [wellFormed, (mem_reservedSels_iff sel).mp hsel])

/-- Settles O6: as O5, with the capability tested where the ROM holds an opcode. -/
theorem encChkTestsTheSleepCapability : Obligations.EncChkTestsTheSleepCapability := by
  refine ⟨fun s e he hcap => ?_, fun s sel hsel hcap => ?_, fun s sel hsel => ?_,
    wordRuns_of_legal_iff (o := .encChk) selArgLegal_iff⟩
  · have hcap' : needsSleepCap e.1 = false ∨ (activeProfile s).sleepCap = true :=
      hcap.imp_left (by simp [← Bool.not_eq_true, needsSleepCap_iff])
    exact ⟨_, exec_encChk (opcodeRom_of_mem_sensorTable e he) hcap', endsWith_finishRes0 _ s⟩
  · have hneeds : needsSleepCap sel = true := by simpa [needsSleepCap_iff] using hsel
    obtain ⟨op, hop⟩ : ∃ op, opcodeRom sel = some op := by
      rcases (needsSleepCap_iff sel).mp hneeds with rfl | rfl <;> exact ⟨_, rfl⟩
    exact ⟨_, exec_encChk_unsupported hop hneeds hcap, endsWith_raiseError .unsupported s⟩
  · exact reservedFieldValuesRaiseIllegalArg _ s (by simp [wellFormed, (mem_reservedSels_iff sel).mp hsel])

end Sys2Proof.Machine
end

section
/-! SUPPORT. `WordRuns` of a request none of whose operands is reserved. -/

namespace Sys2Proof.Machine

open Sys2Proof.Safety

/-- Where no operand is reserved, an argument is legal when it fits in the operand (30_encoding.md R82). -/
theorem wordRuns_of_wellFormed {o : Opcode} {legal : Half → Bool} (hwf : ∀ arg, wellFormed (requestOf o arg) = true)
    (hlegal : ∀ arg, legal arg = true ↔ arg.toNat < 2 ^ operandWidth (formatOf o)) :
    WordRuns (opBits o) legal (requestOf o) :=
  wordRuns_of_legal_iff fun arg => by rw [and_mustBeZero_eq_zero_iff, hlegal, and_iff_left (hwf arg)]

/-- An argument without operand is legal when it is zero. -/
theorem beq_zero_iff_toNat_lt (arg : Half) : (arg == 0#16) = true ↔ arg.toNat < 2 ^ operandWidth .z := by
  rw [beq_iff_eq, ← BitVec.toNat_inj, operandWidth, Nat.pow_zero, Nat.lt_one_iff, BitVec.toNat_ofNat, Nat.zero_mod]

end Sys2Proof.Machine
end

section
/-! PROOF. The CRC unit (41_crc.md): the table (O8), CRC_INIT (O9), CRC_BYTE (O10) and CRC_WORD (O11). -/

namespace Sys2Proof.Machine

open Sys2Proof.Safety

/-! ### The table and the step (R130, R131) -/

/-- The table lists eight iterations on each byte, in the order of their numbers. -/
theorem crc8Table_eq_map : crc8Table = (List.range 256).map (fun n => crc8Shifts 8 (BitVec.ofNat 8 n)) := by
  decide +kernel

theorem crc8Table_getElem? (x : Byte) : crc8Table[x.toNat]? = some (crc8Shifts 8 x) := by
  have hx : x.toNat < 256 := x.isLt
  rw [crc8Table_eq_map, List.getElem?_map, List.getElem?_range hx, Option.map_some, BitVec.ofNat_toNat,
    BitVec.setWidth_eq]

/-- Settles O8: the step looks at `c XOR b` alone, which is the table's index. -/
theorem crcTableEqualsTheBitSerialStep : Obligations.CrcTableEqualsTheBitSerialStep :=
  ⟨by rw [crc8Table_eq_map, List.length_map, List.length_range], fun c b => crc8Table_getElem? (c ^^^ b)⟩

/-- No iteration brings a bit into a zero register. -/
theorem crc8Shifts_zero (n : Nat) : crc8Shifts n 0#8 = 0#8 := by
  induction n with
  | zero => rfl
  | succ n ih => exact ih

@[simp] theorem crc8Step_self (c : Byte) : crc8Step c c = 0#8 := by
  rw [crc8Step, BitVec.xor_self, crc8Shifts_zero]

/-! ### The statements -/

/-- Settles O9: CRC_INIT is `ok` on the state with CRC loaded. -/
theorem crcInitRestartsTheRegister : Obligations.CrcInitRestartsTheRegister :=
  ⟨fun s => ⟨_, rfl, endsWith_finishOk { s with crc := 0xFF#8 }⟩,
    wordRuns_of_wellFormed (o := .crcInit) (fun _ => rfl) beq_zero_iff_toNat_lt⟩

/-- Settles O10: one step by its equation, a list of them by the runs of CRC_BYTE from the register's value. -/
theorem crcByteAccumulatesCrc8 : Obligations.CrcByteAccumulatesCrc8 := by
  refine ⟨fun b s => ?_, fun s => ?_, fun bytes s => ?_, fun bytes s hs => ?_,
    wordRuns_of_wellFormed (o := .crcByte) (fun _ => rfl) fun _ => decide_eq_true_iff⟩
  · exact ⟨_, exec_crcByte b s, endsWith_finishRes0 _ { s with crc := crc8Step s.crc b }⟩
  · exact ⟨_, exec_crcByte s.crc s, crc8Step_self s.crc⟩
  · obtain ⟨observed, t, hrun, hcrc, -⟩ := runProgram_crcs bytes s
    exact ⟨observed, t, hrun, hcrc⟩
  · obtain ⟨observed, t, hrun, hcrc, -⟩ := runProgram_crcBytes bytes s
    exact ⟨observed, t, hrun, by rw [hcrc, hs, crc8]⟩

/-- Settles O11: CRC_WORD is `ok` with one result; its operand is the whole argument. -/
theorem crcWordGivesTheChecksumOfAWord : Obligations.CrcWordGivesTheChecksumOfAWord :=
  ⟨fun w s => ⟨_, rfl, endsWith_finishRes0 ((crc8 [firstByte w, secondByte w]).setWidth 32) s⟩,
    wordRuns_of_wellFormed (o := .crcWord) (fun _ => rfl) fun arg => iff_of_true rfl arg.isLt⟩

end Sys2Proof.Machine
end

section
/-! PROOF. `validate` by the groups of its list (42_validator.md R150, R151): the two verdicts as an `↔` each (O13), and
what bytes added at the end do to them (O14). -/

namespace Sys2Proof.Machine

/-- The third byte of group `k` is the crc8 of its first two. -/
def GroupMatches (bytes : List Byte) (k : Nat) : Prop :=
  crc8 [bytes.getD (3 * k) 0#8, bytes.getD (3 * k + 1) 0#8] = bytes.getD (3 * k + 2) 0#8

/-- Group `k` is complete and the first that does not match. -/
def FirstBadGroup (bytes : List Byte) (k : Nat) : Prop :=
  k < bytes.length / 3 ∧ ¬ GroupMatches bytes k ∧ ∀ j < k, GroupMatches bytes j

theorem groupMatches_cons_succ (a b c : Byte) (rest : List Byte) (k : Nat) :
    GroupMatches (a :: b :: c :: rest) (k + 1) ↔ GroupMatches rest k := Iff.rfl

/-- The groups after the first one are those of the rest. -/
theorem forall_groupMatches_cons_iff {a b c : Byte} (hfirst : crc8 [a, b] = c) (rest : List Byte) (n : Nat) :
    (∀ k < n + 1, GroupMatches (a :: b :: c :: rest) k) ↔ ∀ k < n, GroupMatches rest k := by
  simp only [Nat.forall_lt_succ_left, groupMatches_cons_succ]
  exact and_iff_right hfirst

theorem FirstBadGroup.cons {a b c : Byte} (hfirst : crc8 [a, b] = c) {rest : List Byte} {k : Nat}
    (h : FirstBadGroup rest k) : FirstBadGroup (a :: b :: c :: rest) (k + 1) := by
  obtain ⟨hk, hbad, hbefore⟩ := h
  refine ⟨?_, hbad, (forall_groupMatches_cons_iff hfirst rest k).mpr hbefore⟩
  simp only [List.length_cons]
  omega

/-- There is one first bad group at most. -/
theorem FirstBadGroup.unique {bytes : List Byte} {j k : Nat} (hj : FirstBadGroup bytes j)
    (hk : FirstBadGroup bytes k) : j = k := by
  obtain ⟨-, hjbad, hjbefore⟩ := hj
  obtain ⟨-, hkbad, hkbefore⟩ := hk
  rcases Nat.lt_trichotomy j k with hlt | heq | hgt
  · exact absurd (hkbefore j hlt) hjbad
  · exact heq
  · exact absurd (hjbefore k hgt) hkbad

/-- All that `validateFrom` can answer: Ok with every complete group matching, or the first bad one, counted from `i`. -/
theorem validateFrom_cases (i : Nat) (bytes : List Byte) :
    (validateFrom i bytes = .ok ∧ ∀ k < bytes.length / 3, GroupMatches bytes k)
      ∨ ∃ k, validateFrom i bytes = .checksumError (i + k) ∧ FirstBadGroup bytes k := by
  induction i, bytes using validateFrom.induct with
  | case1 i a b c rest hbad =>
    refine .inr ⟨0, by simp [validateFrom, hbad], ?_, hbad, by simp⟩
    simp only [List.length_cons]
    omega
  | case2 i a b c rest hgood ih =>
    have hfirst : crc8 [a, b] = c := not_not.mp hgood
    have hrec : validateFrom i (a :: b :: c :: rest) = validateFrom (i + 1) rest := by simp [validateFrom, hfirst]
    have hlen : (a :: b :: c :: rest).length / 3 = rest.length / 3 + 1 := by
      simp only [List.length_cons]
      omega
    rw [hrec, hlen]
    rcases ih with ⟨hok, hall⟩ | ⟨k, herr, hbad⟩
    · exact .inl ⟨hok, (forall_groupMatches_cons_iff hfirst rest _).mpr hall⟩
    · exact .inr ⟨k + 1, by rw [herr, Nat.add_right_comm, Nat.add_assoc], hbad.cons hfirst⟩
  | case3 bytes i hshort =>
    refine .inl ⟨by simp [validateFrom], fun k hk => ?_⟩
    match bytes, hshort with
    | [], _ | [_], _ | [_, _], _ => simp at hk
    | a :: b :: c :: rest, hshort => exact absurd rfl (hshort a b c rest)

/-- The same of `validate`. -/
theorem validate_cases (bytes : List Byte) :
    (validate bytes = .ok ∧ ∀ k < bytes.length / 3, GroupMatches bytes k)
      ∨ ∃ k, validate bytes = .checksumError k ∧ FirstBadGroup bytes k := by
  simpa [validate] using validateFrom_cases 0 bytes

theorem validate_eq_ok_iff (bytes : List Byte) :
    validate bytes = .ok ↔ ∀ k < bytes.length / 3, GroupMatches bytes k := by
  rcases validate_cases bytes with ⟨hok, hall⟩ | ⟨j, herr, hj, hbad, -⟩
  · exact iff_of_true hok hall
  · exact iff_of_false (by simp [herr]) fun hall => hbad (hall j hj)

theorem validate_eq_checksumError_iff (bytes : List Byte) (k : Nat) :
    validate bytes = .checksumError k ↔ FirstBadGroup bytes k := by
  rcases validate_cases bytes with ⟨hok, hall⟩ | ⟨j, herr, hj⟩
  · exact iff_of_false (by simp [hok]) fun ⟨hk, hbad, _⟩ => hbad (hall k hk)
  · rw [herr, Verdict.checksumError.injEq]
    exact ⟨fun h => h ▸ hj, hj.unique⟩

/-! ### Bytes added at the end -/

/-- A complete group stays as it is. -/
theorem groupMatches_append_iff {bytes : List Byte} {k : Nat} (hk : k < bytes.length / 3) (tail : List Byte) :
    GroupMatches (bytes ++ tail) k ↔ GroupMatches bytes k := by
  unfold GroupMatches
  rw [List.getD_append _ _ _ _ (by omega), List.getD_append _ _ _ _ (by omega), List.getD_append _ _ _ _ (by omega)]

/-- The first mismatch decides, whatever follows. -/
theorem validate_append_of_checksumError {bytes : List Byte} {k : Nat} (h : validate bytes = .checksumError k)
    (tail : List Byte) : validate (bytes ++ tail) = .checksumError k := by
  rw [validate_eq_checksumError_iff] at h ⊢
  obtain ⟨hk, hbad, hbefore⟩ := h
  refine ⟨?_, mt (groupMatches_append_iff hk tail).mp hbad,
    fun j hj => (groupMatches_append_iff (hj.trans hk) tail).mpr (hbefore j hj)⟩
  rw [List.length_append]
  omega

/-- Bytes that complete no group change no verdict (42_validator.md R151). -/
theorem validate_append_of_length_div {bytes tail : List Byte}
    (h : (bytes ++ tail).length / 3 = bytes.length / 3) : validate (bytes ++ tail) = validate bytes := by
  cases hv : validate bytes with
  | checksumError k => exact validate_append_of_checksumError hv tail
  | ok =>
    rw [validate_eq_ok_iff] at hv ⊢
    exact fun k hk => (groupMatches_append_iff (h ▸ hk) tail).mpr (hv k (h ▸ hk))

/-! ### The statements -/

/-- Settles O13: the two verdicts as they are characterised. -/
theorem validateFindsTheFirstBadGroup : Obligations.ValidateFindsTheFirstBadGroup := fun bytes =>
  ⟨validate_eq_ok_iff bytes, validate_eq_checksumError_iff bytes⟩

/-- Settles O14: the trailing bytes complete no group. -/
theorem partialTrailingGroupIsUnchecked : Obligations.PartialTrailingGroupIsUnchecked := by
  refine ⟨fun bytes tail hwhole htail => validate_append_of_length_div ?_, fun bytes hshort => ?_⟩
  · rw [List.length_append]
    omega
  · rw [validate_eq_ok_iff, Nat.div_eq_of_lt hshort]
    simp

end Sys2Proof.Machine
end

section
/-! PROOF. The validator's requests (42_validator.md): VAL_START (O16), VAL_BYTE (O17) and VAL_CHECK (O18). -/

namespace Sys2Proof.Machine

open Sys2Proof.Safety

/-- `StatusReads` in the names of STATUS's fields. -/
theorem statusReads_iff (old new : Half) (e : BitVec 4) (chkerr : Bool) (vpos : BitVec 2) :
    StatusReads old new e chkerr vpos ↔ errField new = e ∧ chkerrFlag new = chkerr ∧ vposField new = vpos
      ∧ reservedField new = reservedField old := Iff.rfl

@[simp] theorem errBits_ok : errBits .ok = 0#4 := rfl

/-- STATUS after a request that ends successfully (00_scope.md R15). -/
theorem statusReads_finishOk {old : Half} {t : State} {chkerr : Bool} {vpos : BitVec 2}
    (hchk : chkerrFlag t.status = chkerr) (hvpos : vposField t.status = vpos)
    (hres : reservedField t.status = reservedField old) : StatusReads old (finishOk t).status 0#4 chkerr vpos := by
  simp [statusReads_iff, hchk, hvpos, hres]

theorem exec_valStart (s : State) : exec .valStart s = .next (startStream (finishOk s)) := execValStart_eq s

/-! VAL_BYTE by the position in the group (42_validator.md R153). -/

theorem exec_valByte_of_vpos_zero {s : State} (hv : vposField s.status = 0#2) (b : Byte) :
    exec (.valByte b) s = .next (finishOk (takeFirst b s)) := by
  rw [exec, execValByte, if_pos hv]

theorem exec_valByte_of_vpos_one {s : State} (hv : vposField s.status = 1#2) (b : Byte) :
    exec (.valByte b) s = .next (finishOk (takeSecond b s)) := by
  rw [exec, execValByte, if_neg (by rw [hv]; decide), if_pos hv]

theorem exec_valByte_of_vpos_two {s : State} (hv : vposField s.status = 2#2) (b : Byte) :
    exec (.valByte b) s = .next (finishOk (takeChecksum b s)) := by
  rw [exec, execValByte, if_neg (by rw [hv]; decide), if_neg (by rw [hv]; decide)]

/-! VAL_CHECK by CHKERR (42_validator.md R154). -/

theorem exec_valCheck_of_passed {s : State} (hc : chkerrFlag s.status = false) :
    exec .valCheck s = .next (finishRes0 (s.vgroups.setWidth 32) s) := by
  rw [exec, execValCheck, if_neg (by simp [hc])]

theorem exec_valCheck_of_failed {s : State} (hc : chkerrFlag s.status = true) :
    exec .valCheck s = .next (raiseError .checksum s) := by
  rw [exec, execValCheck, if_pos hc]

/-- CHKERR after the checksum byte: set by any mismatch, kept once set (10_state.md R24). -/
theorem chkerrFlag_takeChecksum (b : Byte) (s : State) :
    chkerrFlag (takeChecksum b s).status = (chkerrFlag s.status || b != s.vcrc) := by
  cases hc : chkerrFlag s.status with
  | true => simp [firstMismatch, hc]
  | false => by_cases hb : b = s.vcrc <;> simp [firstMismatch, hc, hb]

/-! ### The statements -/

/-- Settles O16: VAL_START is `ok` and then a new stream. -/
theorem valStartBeginsAFreshStream : Obligations.ValStartBeginsAFreshStream :=
  ⟨fun s => ⟨_, _, exec_valStart s, by simp [statusReads_iff], rfl⟩,
    wordRuns_of_wellFormed (o := .valStart) (fun _ => rfl) beq_zero_iff_toNat_lt⟩

/-- Settles O17, by the three positions of a group. -/
theorem valByteTakesOneByteOfAGroup : Obligations.ValByteTakesOneByteOfAGroup := by
  refine ⟨fun b s hv => ?_, fun b s hv => ?_, fun b s hv => ?_,
    wordRuns_of_wellFormed (o := .valByte) (fun _ => rfl) fun _ => decide_eq_true_iff⟩
  · exact ⟨_, _, exec_valByte_of_vpos_zero hv b, statusReads_finishOk (t := takeFirst b s) (chkerrFlag_setVpos _ _)
      (vposField_setVpos _ _) (reservedField_setVpos _ _), rfl⟩
  · exact ⟨_, _, exec_valByte_of_vpos_one hv b, statusReads_finishOk (t := takeSecond b s) (chkerrFlag_setVpos _ _)
      (vposField_setVpos _ _) (reservedField_setVpos _ _), rfl⟩
  · have hreserved : reservedField (takeChecksum b s).status = reservedField s.status := by
      cases hm : firstMismatch b s <;> simp [hm]
    refine ⟨_, _, exec_valByte_of_vpos_two hv b, statusReads_finishOk (t := takeChecksum b s)
      (chkerrFlag_takeChecksum b s) (vposField_setVpos _ _) hreserved, ?_⟩
    simp only [getLsbD_chkerr, ← firstMismatch_iff]
    rfl

/-- Settles O18, by CHKERR. -/
theorem valCheckReportsTheVerdict : Obligations.ValCheckReportsTheVerdict :=
  ⟨fun s hc => ⟨_, exec_valCheck_of_passed hc, endsWith_finishRes0 (s.vgroups.setWidth 32) s⟩,
    fun s hc => ⟨_, exec_valCheck_of_failed hc, endsWith_raiseError .checksum s⟩,
    wordRuns_of_wellFormed (o := .valCheck) (fun _ => rfl) beq_zero_iff_toNat_lt⟩

end Sys2Proof.Machine
end

section
/-! SUPPORT. No request stops the block (60_exceptions.md R232). -/

namespace Sys2Proof.Machine

theorem gated_next (n : Half) (effect : State → State) (s : State) : ∃ t, gated n effect s = .next t := by
  rcases gated_cases n effect s with ⟨-, h⟩ | ⟨-, -, h⟩ | ⟨-, -, h⟩ <;> exact ⟨_, h⟩

theorem execEncChk_next (sel : BitVec 4) (s : State) : ∃ t, execEncChk sel s = .next t := by
  unfold execEncChk
  split
  · exact ⟨_, rfl⟩
  · split <;> exact ⟨_, rfl⟩

theorem execValByte_next (b : Byte) (s : State) : ∃ t, execValByte b s = .next t := by
  unfold execValByte
  split
  · exact ⟨_, rfl⟩
  · split <;> exact ⟨_, rfl⟩

theorem exec_next (i : Instr) (s : State) : ∃ t, exec i s = .next t := by
  cases i with
  | nop | rst | crcInit | crcByte | crcWord | valStart | convT | convH | convId | profDur => exact ⟨_, rfl⟩
  | regRd reg => rw [exec, execRegRd]; split <;> exact ⟨_, rfl⟩
  | enc sel => rw [exec, execEnc]; split <;> exact ⟨_, rfl⟩
  | encChk sel => exact execEncChk_next sel s
  | valByte b => exact execValByte_next b s
  | valCheck => rw [exec, execValCheck]; split <;> exact ⟨_, rfl⟩
  | measT | measH | measId | measTh => exact gated_next _ _ s
  | profSet psel => rw [exec, execProfSet]; split <;> exact ⟨_, rfl⟩

/-- No word does, the error of a word that names no request being a step too (30_encoding.md R88). -/
theorem perform_next (w : Word) (s : State) : ∃ t, perform w s = .next t := by
  cases hd : decode w with
  | error e => exact ⟨_, perform_error hd s⟩
  | ok i => rw [perform_ok hd]; exact exec_next i s

/-- A run does the first word and then the others (70_reset_and_hazards.md R273). -/
theorem runProgram_cons {w : Word} {ws : List Word} {s t u : State} {observed : List (Word × Word × Half)}
    (hfirst : perform w s = .next t) (hrest : runProgram ws t = .next (observed, u)) :
    runProgram (w :: ws) s = .next (response t :: observed, u) := by
  rw [runProgram, hfirst]
  simp only [hrest]

end Sys2Proof.Machine
end

section
/-! SUPPORT. A stream that grows by one byte (42_validator.md R150, R151): its unfinished group, its data words and its
verdict, by the position of the byte. -/

namespace Sys2Proof.Machine

open Sys2Proof.Safety

theorem length_pendingBytes (bytes : List Byte) : (pendingBytes bytes).length = bytes.length % 3 := by
  rw [pendingBytes, List.length_drop]
  omega

/-- The unfinished group begins after the complete ones. -/
theorem getD_pendingBytes (bytes : List Byte) (i : Nat) :
    (pendingBytes bytes).getD i 0#8 = bytes.getD (3 * (bytes.length / 3) + i) 0#8 := by
  simp [pendingBytes, List.getD_eq_getElem?_getD, List.getElem?_drop]

/-- A data byte joins the unfinished group. -/
theorem pendingBytes_append_dataByte {bytes : List Byte} (h : bytes.length % 3 ≠ 2) (b : Byte) :
    pendingBytes (bytes ++ [b]) = pendingBytes bytes ++ [b] := by
  have hdiv : (bytes ++ [b]).length / 3 = bytes.length / 3 := by
    rw [List.length_append, List.length_singleton]
    omega
  rw [pendingBytes, pendingBytes, hdiv, List.drop_append_of_le_length (by omega)]

/-- The checksum byte finishes it. -/
theorem pendingBytes_append_checksum {bytes : List Byte} (h : bytes.length % 3 = 2) (b : Byte) :
    pendingBytes (bytes ++ [b]) = [] := by
  rw [← List.length_eq_zero_iff, length_pendingBytes, List.length_append, List.length_singleton]
  omega

/-- The data word of a complete group stays as it is. -/
theorem groupWord_append {bytes : List Byte} {k : Nat} (h : 3 * k + 1 < bytes.length) (tail : List Byte) :
    groupWord (bytes ++ tail) k = groupWord bytes k := by
  rw [groupWord, groupWord, List.getD_append _ _ _ _ (by omega), List.getD_append _ _ _ _ h]

section
variable {bytes : List Byte} {x y : Byte} (hp : pendingBytes bytes = [x, y])
include hp

theorem length_mod_of_two_pending : bytes.length % 3 = 2 := by
  rw [← length_pendingBytes, hp]; rfl

/-- The two data bytes of the unfinished group stand where its group begins. -/
theorem getD_of_two_pending :
    bytes.getD (3 * (bytes.length / 3)) 0#8 = x ∧ bytes.getD (3 * (bytes.length / 3) + 1) 0#8 = y :=
  ⟨by simpa [hp] using (getD_pendingBytes bytes 0).symm, by simpa [hp] using (getD_pendingBytes bytes 1).symm⟩

theorem groupWord_append_checksum (b : Byte) : groupWord (bytes ++ [b]) (bytes.length / 3) = x ++ y := by
  obtain ⟨hx, hy⟩ := getD_of_two_pending hp
  have hmod := length_mod_of_two_pending hp
  rw [groupWord_append (by omega), groupWord, hx, hy]

/-- The group that the checksum byte finishes. -/
theorem groupMatches_append_checksum_iff (b : Byte) :
    GroupMatches (bytes ++ [b]) (bytes.length / 3) ↔ crc8 [x, y] = b := by
  obtain ⟨hx, hy⟩ := getD_of_two_pending hp
  have hmod := length_mod_of_two_pending hp
  have hb : (bytes ++ [b]).getD (3 * (bytes.length / 3) + 2) 0#8 = b := by
    rw [List.getD_append_right _ _ _ _ (by omega), show 3 * (bytes.length / 3) + 2 - bytes.length = 0 by omega]
    rfl
  rw [GroupMatches, hb, List.getD_append _ _ _ _ (by omega), List.getD_append _ _ _ _ (by omega), hx, hy]

theorem length_div_append_checksum (b : Byte) : (bytes ++ [b]).length / 3 = bytes.length / 3 + 1 := by
  have hmod := length_mod_of_two_pending hp
  rw [List.length_append, List.length_singleton]
  omega

/-- The checksum byte decides the verdict of a stream without a mismatch so far. -/
theorem validate_append_checksum (hok : validate bytes = .ok) (b : Byte) :
    validate (bytes ++ [b]) = if crc8 [x, y] = b then .ok else .checksumError (bytes.length / 3) := by
  have hbefore : ∀ k < bytes.length / 3, GroupMatches (bytes ++ [b]) k := fun k hk =>
    (groupMatches_append_iff hk [b]).mpr ((validate_eq_ok_iff bytes).mp hok k hk)
  have hlast := groupMatches_append_checksum_iff hp b
  have hlen := length_div_append_checksum hp b
  split
  · next hb =>
    rw [validate_eq_ok_iff, hlen, Nat.forall_lt_succ_right]
    exact ⟨hbefore, hlast.mpr hb⟩
  · next hb =>
    rw [validate_eq_checksumError_iff]
    exact ⟨by omega, mt hlast.mp hb, hbefore⟩

end

end Sys2Proof.Machine
end

section
/-! PROOF. The validator agrees with its stream: at its start (O52), along every word (O51), and so after any list of words
(O19). -/

namespace Sys2Proof.Machine

open Sys2Proof.Safety

/-! ### Agreement, part by part -/

/-- CHKERR and FAILGRP hold the verdict (10_state.md R24, R30). -/
def VerdictHeld (s : State) : Verdict → Prop
  | .ok => chkerrFlag s.status = false ∧ s.failgrp = 0xFFFF#16
  | .checksumError k => chkerrFlag s.status = true ∧ s.failgrp.toNat = min k 65535

/-- W0 and W1 hold the data words of groups 0 and 1 where these are complete (10_state.md R31). -/
def WordsHeld (bytes : List Byte) (s : State) : Prop :=
  (1 ≤ bytes.length / 3 → s.w0 = groupWord bytes 0) ∧ (2 ≤ bytes.length / 3 → s.w1 = groupWord bytes 1)

/-- VPOS, VHOLD and VCRC hold the unfinished group (10_state.md R25, R27, R28). -/
def PendingHeld (pending : List Byte) (s : State) : Prop :=
  (vposField s.status).toNat = pending.length
    ∧ (1 ≤ pending.length → firstByte s.vhold = pending.getD 0 0#8)
    ∧ (2 ≤ pending.length → secondByte s.vhold = pending.getD 1 0#8)
    ∧ (pending.length ≠ 0 → s.vcrc = crc8 pending)

theorem verdictHeld_iff (s : State) (v : Verdict) : VerdictHeld s v ↔
    (chkerrFlag s.status = true ↔ v ≠ .ok) ∧ (v = .ok → s.failgrp = 0xFFFF#16)
      ∧ ∀ k, v = .checksumError k → s.failgrp.toNat = min k 65535 := by
  cases v with
  | ok => simp [VerdictHeld]
  | checksumError k => simp [VerdictHeld]

/-- `StreamAgrees` is the count of groups and these three parts. -/
theorem streamAgrees_iff (bytes : List Byte) (s : State) : StreamAgrees bytes s ↔
    VerdictHeld s (validate bytes) ∧ s.vgroups.toNat = min (bytes.length / 3) 65535 ∧ WordsHeld bytes s
      ∧ PendingHeld (pendingBytes bytes) s := by
  simp only [verdictHeld_iff, WordsHeld, PendingHeld, length_pendingBytes]
  exact ⟨fun ⟨hchk, hok, herr, hgroups, hvpos, hw0, hw1, hpending⟩ =>
      ⟨⟨hchk, hok, herr⟩, hgroups, ⟨hw0, hw1⟩, hvpos, hpending⟩,
    fun ⟨⟨hchk, hok, herr⟩, hgroups, ⟨hw0, hw1⟩, hvpos, hpending⟩ =>
      ⟨hchk, hok, herr, hgroups, hvpos, hw0, hw1, hpending⟩⟩

theorem vposField_zero : vposField 0#16 = 0#2 := by decide

theorem pendingHeld_nil {s : State} (hvpos : vposField s.status = 0#2) : PendingHeld [] s := by
  simp [PendingHeld, hvpos]

/-- What agreement with the empty stream takes (42_validator.md R152). -/
theorem streamAgrees_nil {s : State} (hchk : chkerrFlag s.status = false) (hfail : s.failgrp = 0xFFFF#16)
    (hgroups : s.vgroups = 0#16) (hvpos : vposField s.status = 0#2) : StreamAgrees [] s :=
  (streamAgrees_iff [] s).mpr ⟨⟨hchk, hfail⟩, by simp [hgroups], by simp [WordsHeld], pendingHeld_nil hvpos⟩

/-- Agreement speaks of no register but these, and of nothing in ERR. -/
theorem streamAgrees_of_frame {bytes : List Byte} {s t : State} {e : BitVec 4} (hs : StreamAgrees bytes s)
    (hstatus : t.status = setErr s.status e) (hvcrc : t.vcrc = s.vcrc) (hvhold : t.vhold = s.vhold)
    (hvgroups : t.vgroups = s.vgroups) (hfailgrp : t.failgrp = s.failgrp) (hw0 : t.w0 = s.w0) (hw1 : t.w1 = s.w1) :
    StreamAgrees bytes t := by
  rw [streamAgrees_iff, verdictHeld_iff] at hs ⊢
  simpa only [WordsHeld, PendingHeld, hstatus, hvcrc, hvhold, hvgroups, hfailgrp, hw0, hw1, chkerrFlag_setErr,
    vposField_setErr] using hs

theorem streamAgrees_finishOk {bytes : List Byte} {s : State} (hs : StreamAgrees bytes s) :
    StreamAgrees bytes (finishOk s) :=
  streamAgrees_of_frame hs rfl rfl rfl rfl rfl rfl rfl

/-! ### VAL_BYTE, by the unfinished group (42_validator.md R153) -/

/-- A data byte completes no group, so it changes the unfinished group alone. -/
theorem streamAgrees_append_dataByte {bytes : List Byte} {s t : State} {b : Byte} (hs : StreamAgrees bytes s)
    (hmod : bytes.length % 3 ≠ 2) (hchk : chkerrFlag t.status = chkerrFlag s.status) (hfail : t.failgrp = s.failgrp)
    (hgroups : t.vgroups = s.vgroups) (hw0 : t.w0 = s.w0) (hw1 : t.w1 = s.w1)
    (hpending : PendingHeld (pendingBytes bytes ++ [b]) t) : StreamAgrees (bytes ++ [b]) t := by
  have hdiv : (bytes ++ [b]).length / 3 = bytes.length / 3 := by
    rw [List.length_append, List.length_singleton]
    omega
  obtain ⟨hverdict, hcount, ⟨hword0, hword1⟩, -⟩ := (streamAgrees_iff bytes s).mp hs
  refine (streamAgrees_iff _ t).mpr ⟨?_, ?_, ⟨fun h => ?_, fun h => ?_⟩, ?_⟩
  · rw [verdictHeld_iff] at hverdict ⊢
    rwa [validate_append_of_length_div hdiv, hchk, hfail]
  · rw [hgroups, hcount, hdiv]
  · rw [hdiv] at h
    rw [hw0, hword0 h, groupWord_append (by omega)]
  · rw [hdiv] at h
    rw [hw1, hword1 h, groupWord_append (by omega)]
  · rwa [pendingBytes_append_dataByte hmod]

theorem streamAgrees_takeFirst {bytes : List Byte} {s : State} (b : Byte) (hs : StreamAgrees bytes s)
    (hp : pendingBytes bytes = []) : StreamAgrees (bytes ++ [b]) (takeFirst b s) := by
  have hmod : bytes.length % 3 = 0 := by rw [← length_pendingBytes, hp]; rfl
  refine streamAgrees_append_dataByte hs (by omega) (chkerrFlag_setVpos _ _) rfl rfl rfl rfl ?_
  rw [hp]
  exact ⟨by simp, fun _ => by simp, by simp, fun _ => rfl⟩

theorem streamAgrees_takeSecond {bytes : List Byte} {s : State} {x : Byte} (b : Byte) (hs : StreamAgrees bytes s)
    (hp : pendingBytes bytes = [x]) : StreamAgrees (bytes ++ [b]) (takeSecond b s) := by
  have hmod : bytes.length % 3 = 1 := by rw [← length_pendingBytes, hp]; rfl
  obtain ⟨-, -, -, hpending⟩ := (streamAgrees_iff bytes s).mp hs
  rw [hp] at hpending
  obtain ⟨-, hhold, -, hcrc⟩ := hpending
  refine streamAgrees_append_dataByte hs (by omega) (chkerrFlag_setVpos _ _) rfl rfl rfl rfl ?_
  rw [hp]
  refine ⟨by simp, fun _ => ?_, fun _ => by simp, fun _ => ?_⟩
  · simpa using hhold (Nat.le_refl 1)
  · rw [takeSecond_vcrc, hcrc Nat.one_ne_zero, crc8_append_one]

/-- VHOLD and VCRC when the checksum byte comes. -/
theorem PendingHeld.of_two {x y : Byte} {s : State} (h : PendingHeld [x, y] s) :
    s.vhold = x ++ y ∧ s.vcrc = crc8 [x, y] := by
  obtain ⟨-, hfirst, hsecond, hcrc⟩ := h
  refine ⟨?_, hcrc (by simp)⟩
  have hbytes : s.vhold = firstByte s.vhold ++ secondByte s.vhold := by
    unfold firstByte secondByte; ext i hi; simp; grind
  rw [hbytes, hfirst (by simp), hsecond (by simp)]
  rfl

/-- The first mismatch of the stream puts its group's index into FAILGRP, and only it does. -/
theorem verdictHeld_takeChecksum {bytes : List Byte} {s : State} {x y : Byte} (b : Byte)
    (hp : pendingBytes bytes = [x, y]) (hverdict : VerdictHeld s (validate bytes))
    (hcount : s.vgroups.toNat = min (bytes.length / 3) 65535) (hcrc : s.vcrc = crc8 [x, y]) :
    VerdictHeld (takeChecksum b s) (validate (bytes ++ [b])) := by
  cases hv : validate bytes with
  | checksumError k =>
    obtain ⟨hchk, hfail⟩ : VerdictHeld s (.checksumError k) := hv ▸ hverdict
    rw [validate_append_of_checksumError hv]
    exact ⟨by simp [firstMismatch, hchk], by simp [firstMismatch, hchk, hfail]⟩
  | ok =>
    obtain ⟨hchk, hfail⟩ : VerdictHeld s .ok := hv ▸ hverdict
    rw [validate_append_checksum hp hv]
    by_cases hb : crc8 [x, y] = b
    · have hm : firstMismatch b s = false := by simp [firstMismatch, hcrc, hb]
      rw [if_pos hb]
      exact ⟨by simp [hm, hchk], by simp [hm, hfail]⟩
    · have hm : firstMismatch b s = true := (firstMismatch_iff b s).mpr ⟨by rw [hcrc]; exact Ne.symm hb, hchk⟩
      rw [if_neg hb]
      exact ⟨by simp [hm], by simp [hm, hcount]⟩

/-- The word of group 0 or 1 is captured when its group is the one that ends. -/
theorem wordsHeld_takeChecksum {bytes : List Byte} {s : State} {x y : Byte} (b : Byte)
    (hp : pendingBytes bytes = [x, y]) (hwords : WordsHeld bytes s)
    (hcount : s.vgroups.toNat = min (bytes.length / 3) 65535) (hhold : s.vhold = x ++ y) :
    WordsHeld (bytes ++ [b]) (takeChecksum b s) := by
  obtain ⟨hword0, hword1⟩ := hwords
  have hlast := groupWord_append_checksum hp b
  rw [WordsHeld, length_div_append_checksum hp, takeChecksum_w0, takeChecksum_w1]
  refine ⟨fun _ => ?_, fun h => ?_⟩
  · by_cases hzero : s.vgroups = 0#16
    · have hdiv : bytes.length / 3 = 0 := by simp [hzero] at hcount; omega
      rw [if_pos hzero, hhold, ← hlast, hdiv]
    · have hdiv : 1 ≤ bytes.length / 3 := by
        have hne : s.vgroups.toNat ≠ 0 := fun h0 => hzero (BitVec.eq_of_toNat_eq h0)
        omega
      rw [if_neg hzero, hword0 hdiv, groupWord_append (by omega)]
  · by_cases hone : s.vgroups = 1#16
    · have hdiv : bytes.length / 3 = 1 := by simp [hone] at hcount; omega
      rw [if_pos hone, hhold, ← hlast, hdiv]
    · have hdiv : 2 ≤ bytes.length / 3 := by
        have hne : s.vgroups.toNat ≠ 1 := fun h1 => hone (BitVec.eq_of_toNat_eq h1)
        omega
      rw [if_neg hone, hword1 hdiv, groupWord_append (by omega)]

theorem streamAgrees_takeChecksum {bytes : List Byte} {s : State} {x y : Byte} (b : Byte) (hs : StreamAgrees bytes s)
    (hp : pendingBytes bytes = [x, y]) : StreamAgrees (bytes ++ [b]) (takeChecksum b s) := by
  obtain ⟨hverdict, hcount, hwords, hpending⟩ := (streamAgrees_iff bytes s).mp hs
  obtain ⟨hhold, hcrc⟩ := PendingHeld.of_two (hp ▸ hpending)
  refine (streamAgrees_iff _ _).mpr ⟨verdictHeld_takeChecksum b hp hverdict hcount hcrc, ?_,
    wordsHeld_takeChecksum b hp hwords hcount hhold, ?_⟩
  · rw [takeChecksum_vgroups, satIncr_toNat, length_div_append_checksum hp, hcount]
    omega
  · rw [pendingBytes_append_checksum (length_mod_of_two_pending hp)]
    exact pendingHeld_nil (vposField_setVpos _ _)

/-- VPOS tells the unfinished group: none, its first byte, or both data bytes. -/
theorem length_pendingBytes_of_streamAgrees {bytes : List Byte} {s : State} (hs : StreamAgrees bytes s) :
    (pendingBytes bytes).length = (vposField s.status).toNat := by
  obtain ⟨-, -, -, hvpos, -⟩ := (streamAgrees_iff bytes s).mp hs
  exact hvpos.symm

/-! ### Every request but VAL_START and RST -/

/-- The byte that a request adds to the stream: VAL_BYTE's (42_validator.md R155). -/
def streamByte : Instr → List Byte
  | .valByte b => [b]
  | _ => []

theorem streamByte_of_ne_valByte {i : Instr} (h : opcodeOfInstr i ≠ .valByte) : streamByte i = [] := by
  cases i with
  | valByte b => exact absurd rfl h
  | _ => rfl

theorem streamBytes_cons (w : Word) (ws : List Word) : streamBytes (w :: ws) = streamBytes [w] ++ streamBytes ws :=
  List.filterMap_append (l := [w]) (l' := ws)

theorem streamBytes_of_decode_ok {w : Word} {i : Instr} (h : decode w = .ok i) : streamBytes [w] = streamByte i := by
  cases i <;> simp [streamBytes, streamByte, h]

theorem streamBytes_of_decode_error {w : Word} {e : DecodeError} (h : decode w = .error e) : streamBytes [w] = [] := by
  simp [streamBytes, h]

theorem ne_valByte_of_mayRaise_or_givesOneResult {o : Opcode} (h : mayRaise o ∨ givesOneResult o) : o ≠ .valByte := by
  rintro rfl; exact absurd h (by decide)

theorem RequestEffect.streamAgrees {bytes : List Byte} {s t : State} {i : Instr} (h : RequestEffect s i t)
    (hs : StreamAgrees bytes s) (hstart : i ≠ .valStart) (hrst : i ≠ .rst) :
    StreamAgrees (bytes ++ streamByte i) t := by
  have hlen := length_pendingBytes_of_streamAgrees hs
  cases h with
  | raised e hi =>
    rw [streamByte_of_ne_valByte (ne_valByte_of_mayRaise_or_givesOneResult (.inl hi)), List.append_nil]
    exact streamAgrees_of_frame hs rfl rfl rfl rfl rfl rfl rfl
  | result v hi =>
    rw [streamByte_of_ne_valByte (ne_valByte_of_mayRaise_or_givesOneResult (.inr hi)), List.append_nil]
    exact streamAgrees_of_frame hs rfl rfl rfl rfl rfl rfl rfl
  | nop | crcInit | crcByte | measTh | profSet =>
    rw [streamByte_of_ne_valByte (by simp [opcodeOfInstr]), List.append_nil]
    exact streamAgrees_of_frame hs rfl rfl rfl rfl rfl rfl rfl
  | rst => exact absurd rfl hrst
  | valStart => exact absurd rfl hstart
  | firstByte b hv =>
    have hp : pendingBytes bytes = [] := List.length_eq_zero_iff.mp (by rw [hlen, hv]; rfl)
    exact streamAgrees_finishOk (streamAgrees_takeFirst b hs hp)
  | secondByte b hv =>
    obtain ⟨x, hp⟩ := List.length_eq_one_iff.mp (show (pendingBytes bytes).length = 1 by rw [hlen, hv]; rfl)
    exact streamAgrees_finishOk (streamAgrees_takeSecond b hs hp)
  | checksumByte b hv₀ hv₁ =>
    have htwo : (pendingBytes bytes).length = 2 := by
      have hlt : (pendingBytes bytes).length < 3 := length_pendingBytes bytes ▸ Nat.mod_lt _ (by decide)
      have hne₀ : (vposField s.status).toNat ≠ 0 := fun h0 => hv₀ (BitVec.eq_of_toNat_eq h0)
      have hne₁ : (vposField s.status).toNat ≠ 1 := fun h1 => hv₁ (BitVec.eq_of_toNat_eq h1)
      omega
    obtain ⟨x, y, hp⟩ := List.length_eq_two.mp htwo
    exact streamAgrees_finishOk (streamAgrees_takeChecksum b hs hp)

theorem keepsStream_iff (w : Word) : keepsStream w = true ↔ decode w ≠ .ok .valStart ∧ decode w ≠ .ok .rst := by
  simp [keepsStream]

theorem streamAgrees_perform {bytes : List Byte} {w : Word} {s t : State} (hs : StreamAgrees bytes s)
    (hw : keepsStream w = true) (h : perform w s = .next t) : StreamAgrees (bytes ++ streamBytes [w]) t := by
  obtain ⟨hstart, hrst⟩ := (keepsStream_iff w).mp hw
  rcases perform_cases h with ⟨e, hd, rfl⟩ | ⟨i, hd, heffect⟩
  · rw [streamBytes_of_decode_error hd, List.append_nil]
    exact streamAgrees_of_frame hs rfl rfl rfl rfl rfl rfl rfl
  · rw [streamBytes_of_decode_ok hd]
    exact heffect.streamAgrees hs (fun hi => hstart (hi ▸ hd)) fun hi => hrst (hi ▸ hd)

/-- Settles O51: the step performs the word, by its effect on each part of the agreement. -/
theorem everyStepKeepsStreamAgreement : Obligations.EveryStepKeepsStreamAgreement := fun _ w s _ hs hw h =>
  streamAgrees_perform hs hw (step_present w s ▸ h)

/-! ### The start of a stream, and a whole run -/

theorem streamAgrees_startStream (s : State) : StreamAgrees [] (startStream s) :=
  streamAgrees_nil (by simp [startStream]) rfl rfl (vposField_setVpos _ _)

theorem streamAgrees_resetWith (p : Config.Params) : StreamAgrees [] (State.resetWith p) :=
  streamAgrees_nil chkerrFlag_zero rfl rfl vposField_zero

theorem streamAgrees_blockReset (s : State) : StreamAgrees [] (blockReset s) :=
  streamAgrees_nil chkerrFlag_zero rfl rfl vposField_zero

/-- Settles O52: all three leave no verdict, no group and no byte. -/
theorem freshValidatorAgreesWithTheEmptyStream : Obligations.FreshValidatorAgreesWithTheEmptyStream :=
  ⟨fun s => ⟨_, exec_valStart s, streamAgrees_startStream (finishOk s)⟩,
    fun s => ⟨_, rfl, streamAgrees_finishOk (streamAgrees_blockReset s)⟩,
    streamAgrees_resetWith⟩

/-- Any list of words but VAL_START and RST extends the stream that the validator agrees with (42_validator.md R155). -/
theorem runProgram_streamAgrees (ws : List Word) (hws : ws.all keepsStream = true) {bytes : List Byte} {s : State}
    (hs : StreamAgrees bytes s) :
    ∃ observed t, runProgram ws s = .next (observed, t) ∧ StreamAgrees (bytes ++ streamBytes ws) t := by
  induction ws generalizing bytes s with
  | nil => exact ⟨[], s, rfl, by simpa [streamBytes] using hs⟩
  | cons w ws ih =>
    rw [List.all_cons, Bool.and_eq_true] at hws
    obtain ⟨hw, hrest⟩ := hws
    obtain ⟨u, hu⟩ := perform_next w s
    obtain ⟨observed, t, hrun, ht⟩ := ih hrest (streamAgrees_perform hs hw hu)
    exact ⟨_, t, runProgram_cons hu hrun, by rwa [streamBytes_cons, ← List.append_assoc]⟩

/-- VAL_CHECK after a stream succeeds exactly where the stream validates (42_validator.md R154). -/
theorem exec_valCheck_err_iff {s : State} {v : Verdict} (h : VerdictHeld s v) :
    ∃ u, exec .valCheck s = .next u ∧ (errField u.status = 0#4 ↔ v = .ok) := by
  cases v with
  | ok =>
    obtain ⟨hchk, -⟩ := h
    exact ⟨_, exec_valCheck_of_passed hchk, iff_of_true (by simp) rfl⟩
  | checksumError k =>
    obtain ⟨hchk, -⟩ := h
    have hcode : errBits .checksum ≠ 0#4 := errBits_ne_zero (by decide)
    exact ⟨_, exec_valCheck_of_failed hchk, iff_of_false (by simpa using hcode) (by simp)⟩

theorem verdict_ne_ok_iff (v : Verdict) : v ≠ .ok ↔ ∃ k, v = .checksumError k := by
  cases v <;> simp

/-- FAILGRP of a failed stream: the index, or 0xFFFF where it does not fit (10_state.md R30). -/
theorem failgrp_of_toNat_eq_min {f : Half} {k : Nat} (h : f.toNat = min k 65535) :
    (k < 65535 → f.toNat = k) ∧ (65535 ≤ k → f = 0xFFFF#16) :=
  ⟨fun hk => by omega, fun hk => BitVec.eq_of_toNat_eq (by rw [h, Nat.min_eq_right hk]; rfl)⟩

/-- Settles O19: VAL_START agrees with the empty stream, and the words after it keep the agreement. -/
theorem byteSerialStreamAgreesWithValidate : Obligations.ByteSerialStreamAgreesWithValidate := by
  intro ws s hws
  obtain ⟨observed, t, hrun, hagrees⟩ := runProgram_streamAgrees ws hws (streamAgrees_startStream (finishOk s))
  rw [List.nil_append] at hagrees
  obtain ⟨hverdict, -⟩ := (streamAgrees_iff _ t).mp hagrees
  obtain ⟨u, hu, herr⟩ := exec_valCheck_err_iff hverdict
  obtain ⟨hchk, -, hfail, hgroups, hvpos, hw0, hw1, -⟩ := hagrees
  refine ⟨_, t, runProgram_encode_cons (exec_valStart s) hrun, hchk.trans (verdict_ne_ok_iff _),
    fun k hk => failgrp_of_toNat_eq_min (hfail k hk), hgroups, hvpos, fun h => hw0 ?_, fun h => hw1 ?_, u, hu, herr⟩
  · omega
  · omega

end Sys2Proof.Machine
end

section
/-! PROOF. The conversions (43_converter.md R170 to R173) in whole numbers, and the pure conversion requests: CONV_T (O20),
CONV_H (O21), CONV_ID (O22), and the two conversions' growth (O23). -/

namespace Sys2Proof.Machine

/-! ### The conversions as numbers -/

/-- The product and its shift, before the offset: nothing overflows (43_converter.md R170). -/
theorem toNat_mul_21875_shift (raw : Half) :
    ((raw.setWidth 32 * 21875#32) >>> 13).toNat = raw.toNat * 21875 / 8192 := by
  have hlt := raw.isLt
  simp only [BitVec.toNat_ushiftRight, BitVec.toNat_mul, BitVec.toNat_setWidth, BitVec.toNat_ofNat,
    Nat.shiftRight_eq_div_pow]
  omega

/-- `conv_t` in whole numbers: the offset does not overflow either. -/
theorem convT_toInt (raw : Half) : (convT raw).toInt = (raw.toNat : Int) * 21875 / 8192 - 45000 := by
  have hlt := raw.isLt
  have hshift := toNat_mul_21875_shift raw
  have hint : ((raw.setWidth 32 * 21875#32) >>> 13).toInt = (raw.toNat : Int) * 21875 / 8192 := by
    rw [BitVec.toInt_eq_toNat_of_lt (by omega), hshift]
    omega
  rw [convT, BitVec.toInt_sub, hint, show (45000#32 : Word).toInt = 45000 from rfl,
    Int.bmod_eq_of_le (by omega) (by omega)]

/-- `conv_t` by the datasheet's formula: 21875/8192 is 175000/65536. -/
theorem convT_toInt_eq_floor (raw : Half) : (convT raw).toInt = 175000 * (raw.toNat : Int) / 65536 - 45000 := by
  rw [convT_toInt]
  omega

/-- `conv_h` by the datasheet's formula: 12500/8192 is 100000/65536. -/
theorem convH_toNat_eq_floor (raw : Half) : (convH raw).toNat = 100000 * raw.toNat / 65536 := by
  rw [convH_toNat]
  omega

/-- Bit 31 of a humidity is clear, so it is the same number signed and unsigned (90_conflicts.md C3). -/
theorem convH_msb (raw : Half) : (convH raw).msb = false := by
  have hle := convH_toNat_le raw
  rw [BitVec.msb_eq_false_iff_two_mul_lt]
  omega

theorem convH_toInt (raw : Half) : (convH raw).toInt = (raw.toNat : Int) * 12500 / 8192 := by
  rw [BitVec.toInt_eq_toNat_of_msb (convH_msb raw), convH_toNat]
  omega

/-- The next raw code, where there is one. -/
theorem toNat_add_one {a : Half} (h : a.toNat < 65535) : (a + 1#16).toNat = a.toNat + 1 := by
  rw [BitVec.toNat_add, BitVec.toNat_ofNat]
  omega

/-! ### The device identifier (43_converter.md R172) -/

theorem devId_getLsbD_six (raw : Half) : ((devId raw).setWidth 32).getLsbD 6 = raw.getLsbD 11 := by
  simp [devId]; grind

theorem devId_getLsbD_of_lt (raw : Half) {i : Nat} (hi : i < 6) :
    ((devId raw).setWidth 32).getLsbD i = raw.getLsbD i := by
  have hi32 : i < 32 := by omega
  simp [devId, hi32]; grind

theorem devId_setWidth_toNat_lt (raw : Half) : ((devId raw).setWidth 32).toNat < 128 := by
  rw [BitVec.toNat_setWidth]
  exact (Nat.mod_le _ _).trans_lt (devId raw).isLt

/-! ### The statements -/

/-- Settles O20: CONV_T is `ok` with one result, and the result in whole numbers. -/
theorem convTGivesMilliCelsius : Obligations.ConvTGivesMilliCelsius := by
  refine ⟨fun raw s => ?_, wordRuns_of_wellFormed (o := .convT) (fun _ => rfl) fun arg => iff_of_true rfl arg.isLt⟩
  have hfloor := convT_toInt_eq_floor raw
  have hlt := raw.isLt
  exact ⟨_, convT raw, rfl, endsWith_finishRes0 _ s, rfl, hfloor, by omega, by omega⟩

/-- Settles O21, likewise. -/
theorem convHGivesMilliPercent : Obligations.ConvHGivesMilliPercent :=
  ⟨fun raw s => ⟨_, convH raw, rfl, endsWith_finishRes0 _ s, rfl, convH_toNat_eq_floor raw, convH_toNat_le raw,
      convH_msb raw⟩,
    wordRuns_of_wellFormed (o := .convH) (fun _ => rfl) fun arg => iff_of_true rfl arg.isLt⟩

/-- Settles O22, bit by bit. -/
theorem convIdGivesTheSevenIdentifierBits : Obligations.ConvIdGivesTheSevenIdentifierBits :=
  ⟨fun raw s => ⟨_, (devId raw).setWidth 32, rfl, endsWith_finishRes0 _ s, devId_setWidth_toNat_lt raw,
      devId_getLsbD_six raw, fun _ => devId_getLsbD_of_lt raw⟩,
    wordRuns_of_wellFormed (o := .convId) (fun _ => rfl) fun arg => iff_of_true rfl arg.isLt⟩

/-- Settles O23: one code is 21875/8192, between 2 and 3, for `conv_t`, and 12500/8192, between 1 and 2, for `conv_h`. -/
theorem conversionsAreStrictlyIncreasing : Obligations.ConversionsAreStrictlyIncreasing := by
  refine ⟨by simp [convT_toInt], by simp [convT_toInt], by simp [convH_toNat], by simp [convH_toNat],
    fun a b hab => ?_, fun a ha => ?_⟩
  · simp only [convT_toInt, convH_toInt]
    omega
  · simp only [convT_toInt, convH_toInt, toNat_add_one ha]
    omega

end Sys2Proof.Machine
end

section
/-! PROOF. The validated measurements (43_converter.md R178 to R182): the gate (O24), one result (O25), two (O26). -/

namespace Sys2Proof.Machine

open Sys2Proof.Safety

/-! ### A gated request, by the gate's answer (43_converter.md R178) -/

theorem gated_of_measGate_some {n : Half} {s : State} {e : ErrCode} (h : measGate n s = some e)
    (effect : State → State) : gated n effect s = .next (raiseError e s) := by
  rw [gated, h]

theorem gated_of_measGate_none {n : Half} {s : State} (h : measGate n s = none) (effect : State → State) :
    gated n effect s = .next (effect s) := by
  rw [gated, h]

theorem measGate_of_failed {s : State} (hc : chkerrFlag s.status = true) (n : Half) :
    measGate n s = some .checksum := by
  rw [measGate, if_pos hc]

theorem measGate_of_passed {s : State} (hc : chkerrFlag s.status = false) (n : Half) :
    measGate n s = if s.vgroups.toNat < n.toNat then some .noData else none := by
  simp [measGate, hc, BitVec.ult]

theorem measGate_of_few {n : Half} {s : State} (hc : chkerrFlag s.status = false) (hn : s.vgroups.toNat < n.toNat) :
    measGate n s = some .noData := by
  rw [measGate_of_passed hc, if_pos hn]

theorem measGate_of_enough {n : Half} {s : State} (hc : chkerrFlag s.status = false) (hn : n.toNat ≤ s.vgroups.toNat) :
    measGate n s = none := by
  rw [measGate_of_passed hc, if_neg (Nat.not_lt.mpr hn)]

/-- The three outcomes in their order, for an effect that ends in `ok`. -/
theorem gated_ends (n : Half) (effect : State → State) (s : State) (hok : errField (effect s).status = 0#4) :
    ∃ t, gated n effect s = .next t
      ∧ (if chkerrFlag s.status = true then EndsWith 1#4 s t
        else if s.vgroups.toNat < n.toNat then EndsWith 5#4 s t
        else errField t.status = 0#4) := by
  cases hc : chkerrFlag s.status with
  | true =>
    exact ⟨_, gated_of_measGate_some (measGate_of_failed hc n) effect, endsWith_raiseError .checksum s⟩
  | false =>
    by_cases hn : s.vgroups.toNat < n.toNat
    · refine ⟨_, gated_of_measGate_some (measGate_of_few hc hn) effect, ?_⟩
      rw [if_neg Bool.false_ne_true, if_pos hn]
      exact endsWith_raiseError .noData s
    · refine ⟨_, gated_of_measGate_none (measGate_of_enough hc (Nat.not_lt.mp hn)) effect, ?_⟩
      rwa [if_neg Bool.false_ne_true, if_neg hn]

theorem errField_finishRes0 (v : Word) (s : State) : errField (finishRes0 v s).status = 0#4 :=
  errField_setErr _ _

theorem errField_finishRes01 (v u : Word) (s : State) : errField (finishRes01 v u s).status = 0#4 :=
  errField_setErr _ _

/-- Settles O24: each of the five is a gated request whose effect ends in `ok`. -/
theorem measurementGateTestsChecksumThenData : Obligations.MeasurementGateTestsChecksumThenData := by
  intro s e he
  simp only [List.mem_cons, List.not_mem_nil, or_false] at he
  rcases he with rfl | rfl | rfl | rfl | rfl
  · exact gated_ends 1#16 _ s (errField_finishRes0 _ s)
  · exact gated_ends 1#16 _ s (errField_finishRes0 _ s)
  · exact gated_ends 1#16 _ s (errField_finishRes0 _ s)
  · exact gated_ends 2#16 _ s (errField_finishRes01 _ _ s)
  · exact gated_ends 2#16 _ s (errField_finishRes01 _ _ s)

/-! ### One result, or two together -/

/-- The three measurements of one group share the gate (43_converter.md R178). -/
theorem exec_singleMeasurement {i : Instr} (hi : i ∈ [Instr.measT, .measH, .measId]) (s : State) :
    ∃ effect, exec i s = gated 1#16 effect s := by
  simp only [List.mem_cons, List.not_mem_nil, or_false] at hi
  rcases hi with rfl | rfl | rfl <;> exact ⟨_, rfl⟩

/-- Settles O25, by the gate. -/
theorem singleMeasurementsConvertTheFirstWord : Obligations.SingleMeasurementsConvertTheFirstWord := by
  refine ⟨fun s hc hgroups => ?_, fun s hc i hi => ?_, fun s hc hgroups i hi => ?_,
    wordRuns_of_wellFormed (o := .measT) (fun _ => rfl) beq_zero_iff_toNat_lt,
    wordRuns_of_wellFormed (o := .measH) (fun _ => rfl) beq_zero_iff_toNat_lt,
    wordRuns_of_wellFormed (o := .measId) (fun _ => rfl) beq_zero_iff_toNat_lt⟩
  · have hgate : measGate 1#16 s = none := measGate_of_enough hc hgroups
    exact ⟨⟨_, gated_of_measGate_none hgate _, rfl, endsWith_finishRes0 _ s⟩,
      ⟨_, gated_of_measGate_none hgate _, rfl, endsWith_finishRes0 _ s⟩,
      _, gated_of_measGate_none hgate _, rfl, endsWith_finishRes0 ((devId s.w0).setWidth 32) s⟩
  · obtain ⟨effect, hexec⟩ := exec_singleMeasurement hi s
    exact ⟨_, hexec.trans (gated_of_measGate_some (measGate_of_failed hc _) effect), endsWith_raiseError .checksum s⟩
  · obtain ⟨effect, hexec⟩ := exec_singleMeasurement hi s
    have hgate : measGate 1#16 s = some .noData := measGate_of_few hc (by rw [hgroups]; decide)
    exact ⟨_, hexec.trans (gated_of_measGate_some hgate effect), endsWith_raiseError .noData s⟩

/-- Only the requests of legal arguments matter to `WordRuns`. -/
theorem wordRuns_congr {op : Byte} {legal : Half → Bool} {request request' : Half → Instr}
    (h : WordRuns op legal request) (heq : ∀ arg, legal arg = true → request arg = request' arg) :
    WordRuns op legal request' := by
  intro rsv arg s
  have hrun := h rsv arg s
  by_cases hlegal : legal arg = true
  · rwa [heq arg hlegal] at hrun
  · rwa [if_neg hlegal] at hrun ⊢

/-- The order that a legal O1 argument names (30_encoding.md R86). -/
theorem orderOfBit_of_lt_two {arg : Half} (h : arg.toNat < 2) :
    orderOfBit (arg.extractLsb' 0 1) = if arg = 1#16 then .humidityFirst else .temperatureFirst := by
  have hcases : arg = 0#16 ∨ arg = 1#16 := by bv_omega
  rcases hcases with rfl | rfl <;> rfl

/-- Settles O26, by the gate. -/
theorem measThWritesBothResultsOrNeither : Obligations.MeasThWritesBothResultsOrNeither := by
  refine ⟨fun s hc hgroups => ?_, fun s ord hc => ?_, fun s ord hc hgroups => ?_,
    wordRuns_congr (wordRuns_of_wellFormed (o := .measTh) (fun _ => rfl) fun _ => decide_eq_true_iff)
      fun arg harg => ?_⟩
  · have hgate : measGate 2#16 s = none := measGate_of_enough hc hgroups
    exact ⟨⟨_, gated_of_measGate_none hgate _, endsWith_finishRes01 _ _ s⟩,
      _, gated_of_measGate_none hgate _, endsWith_finishRes01 _ _ s⟩
  · exact ⟨_, gated_of_measGate_some (measGate_of_failed hc _) _, endsWith_raiseError .checksum s⟩
  · exact ⟨_, gated_of_measGate_some (measGate_of_few (n := 2#16) hc hgroups) _, endsWith_raiseError .noData s⟩
  · rw [requestOf, orderOfBit_of_lt_two (of_decide_eq_true harg)]

end Sys2Proof.Machine
end

section
/-! PROOF. A measurement after a whole stream: its answer is a function of the stream's bytes, so it comes only from a
validated stream (O27) and does not depend on the state before (O28). -/

namespace Sys2Proof.Machine

open Sys2Proof.Safety

/-! ### What a measurement answers of a stream -/

/-- A measurement's answer: the groups it needs, its RES0, and its RES1 where it writes one. -/
structure Measurement where
  groups : Half
  res0 : Word
  res1 : Option Word

/-- The answer of each measurement request to a stream, by the stream's own words (43_converter.md R179 to R182). -/
def streamMeasurement (bytes : List Byte) : Instr → Option Measurement
  | .measT => some ⟨1#16, convT (groupWord bytes 0), none⟩
  | .measH => some ⟨1#16, convH (groupWord bytes 0), none⟩
  | .measId => some ⟨1#16, (devId (groupWord bytes 0)).setWidth 32, none⟩
  | .measTh .temperatureFirst => some ⟨2#16, convT (groupWord bytes 0), some (convH (groupWord bytes 1))⟩
  | .measTh .humidityFirst => some ⟨2#16, convT (groupWord bytes 1), some (convH (groupWord bytes 0))⟩
  | _ => none

theorem groups_le_two {bytes : List Byte} {i : Instr} {m : Measurement} (hm : streamMeasurement bytes i = some m) :
    m.groups.toNat ≤ 2 := by
  unfold streamMeasurement at hm
  split at hm <;> cases hm <;> simp

/-- The gate of a stream, by `validate` and the length (43_converter.md R178). -/
def streamGate (n : Half) (bytes : List Byte) : Option ErrCode :=
  if validate bytes ≠ .ok then some .checksum
  else if bytes.length / 3 < n.toNat then some .noData
  else none

theorem streamGate_eq_none_iff (n : Half) (bytes : List Byte) :
    streamGate n bytes = none ↔ validate bytes = .ok ∧ n.toNat ≤ bytes.length / 3 := by
  by_cases hv : validate bytes = .ok <;> simp [streamGate, hv]

theorem streamGate_ne_ok {n : Half} {bytes : List Byte} {e : ErrCode} (h : streamGate n bytes = some e) : e ≠ .ok := by
  rintro rfl
  unfold streamGate at h
  split at h
  · cases h
  · split at h <;> cases h

/-- A measurement's success: its results, written over `s`. -/
def Measurement.finish (m : Measurement) (s : State) : State :=
  match m.res1 with
  | none => finishRes0 m.res0 s
  | some v => finishRes01 m.res0 v s

theorem Measurement.errField_finish (m : Measurement) (s : State) : errField (m.finish s).status = 0#4 := by
  unfold finish
  split
  · exact errField_finishRes0 _ s
  · exact errField_finishRes01 _ _ s

theorem Measurement.finish_results (m : Measurement) (s : State) :
    (m.finish s).res0 = m.res0 ∧ (m.finish s).res1 = m.res1.getD s.res1 := by
  unfold finish
  split
  · next h => simp [h]
  · next h => simp [h]

/-! ### The request after the stream -/

/-- The gate of a state that agrees with a stream is the stream's: the count saturates far above the groups needed
(10_state.md R29). -/
theorem measGate_of_streamAgrees {bytes : List Byte} {u : State} (hu : StreamAgrees bytes u) {n : Half}
    (hn : n.toNat ≤ 2) : measGate n u = streamGate n bytes := by
  obtain ⟨hverdict, hcount, -⟩ := (streamAgrees_iff bytes u).mp hu
  obtain ⟨hchk, -⟩ := (verdictHeld_iff u _).mp hverdict
  by_cases hv : validate bytes = .ok
  · have hpassed : chkerrFlag u.status = false := by simpa [hv] using hchk
    have hfew : u.vgroups.toNat < n.toNat ↔ bytes.length / 3 < n.toNat := by omega
    simp [measGate_of_passed hpassed, streamGate, hv, hfew]
  · rw [measGate_of_failed (hchk.mpr hv), streamGate, if_pos hv]

/-- What the effect does behind a closed gate does not matter. -/
theorem gated_congr {n : Half} {effect effect' : State → State} {s : State}
    (h : measGate n s = none → effect s = effect' s) : gated n effect s = gated n effect' s := by
  cases hgate : measGate n s with
  | none => rw [gated_of_measGate_none hgate, gated_of_measGate_none hgate, h hgate]
  | some e => rw [gated_of_measGate_some hgate, gated_of_measGate_some hgate]

/-- An open gate leaves no complete group missing. -/
theorem length_of_measGate_none {bytes : List Byte} {u : State} (hu : StreamAgrees bytes u) {n : Half}
    (hn : n.toNat ≤ 2) (hgate : measGate n u = none) : n.toNat ≤ bytes.length / 3 := by
  rw [measGate_of_streamAgrees hu hn, streamGate_eq_none_iff] at hgate
  obtain ⟨-, hlen⟩ := hgate
  exact hlen

/-- The gate for one group opens only where W0 is the stream's own (10_state.md R31). -/
theorem w0_of_measGate_one {bytes : List Byte} {u : State} (hu : StreamAgrees bytes u)
    (hgate : measGate 1#16 u = none) : u.w0 = groupWord bytes 0 := by
  obtain ⟨-, -, ⟨hw0, -⟩, -⟩ := (streamAgrees_iff bytes u).mp hu
  exact hw0 (length_of_measGate_none hu (by decide) hgate)

/-- The gate for two groups opens only where W0 and W1 both are. -/
theorem words_of_measGate_two {bytes : List Byte} {u : State} (hu : StreamAgrees bytes u)
    (hgate : measGate 2#16 u = none) : u.w0 = groupWord bytes 0 ∧ u.w1 = groupWord bytes 1 := by
  obtain ⟨-, -, ⟨hw0, hw1⟩, -⟩ := (streamAgrees_iff bytes u).mp hu
  have hlen : 2 ≤ bytes.length / 3 := length_of_measGate_none hu (by decide) hgate
  exact ⟨hw0 (by omega), hw1 hlen⟩

/-- MEAS_TH converts the stream's words in either order (43_converter.md R182). -/
theorem exec_measTh_of_streamAgrees {bytes : List Byte} {u : State} (hu : StreamAgrees bytes u) (ord : Order)
    {m : Measurement} (hm : streamMeasurement bytes (.measTh ord) = some m) :
    exec (.measTh ord) u = gated m.groups m.finish u := by
  cases ord <;> cases hm <;>
    exact gated_congr fun hgate => by
      obtain ⟨h0, h1⟩ := words_of_measGate_two hu hgate
      rw [temperatureWord, humidityWord, h0, h1]
      rfl

/-- A measurement after a stream is the gate and then the stream's answer. -/
theorem exec_streamMeasurement {bytes : List Byte} {u : State} (hu : StreamAgrees bytes u) {i : Instr} {m : Measurement}
    (hm : streamMeasurement bytes i = some m) : exec i u = gated m.groups m.finish u := by
  cases i with
  | measT => cases hm; exact gated_congr fun hgate => by rw [w0_of_measGate_one hu hgate]; rfl
  | measH => cases hm; exact gated_congr fun hgate => by rw [w0_of_measGate_one hu hgate]; rfl
  | measId => cases hm; exact gated_congr fun hgate => by rw [w0_of_measGate_one hu hgate]; rfl
  | measTh ord => exact exec_measTh_of_streamAgrees hu ord hm
  | _ => cases hm

/-! ### The whole run -/

/-- VAL_BYTE extends the stream and writes no result. -/
theorem exec_valByte_of_streamAgrees {bytes : List Byte} {s : State} (hs : StreamAgrees bytes s) (b : Byte) :
    ∃ t, exec (.valByte b) s = .next t ∧ StreamAgrees (bytes ++ [b]) t ∧ t.res0 = s.res0 ∧ t.res1 = s.res1 := by
  obtain ⟨t, ht⟩ := exec_next (.valByte b) s
  obtain ⟨-, -, -, -, -, -, -, -, hres1, hres0, -⟩ := registersAreWrittenOnlyByTheirRequests _ s t ht
  refine ⟨t, ht, (RequestEffect.of_exec ht).streamAgrees hs (by simp) (by simp), ?_, ?_⟩
  · by_contra hne
    exact absurd (hres0 hne) (by simp [opcodeOfInstr])
  · by_contra hne
    exact absurd (hres1 hne) (by simp [opcodeOfInstr])

/-- The bytes of a stream and one request after them: the request meets a state that agrees with the whole stream and holds
the results from before. -/
theorem runProgram_feed_then (i : Instr) (bytes : List Byte) {before : List Byte} {s : State}
    (hs : StreamAgrees before s) :
    ∃ u, StreamAgrees (before ++ bytes) u ∧ u.res0 = s.res0 ∧ u.res1 = s.res1
      ∧ ∀ t, exec i u = .next t → ∃ observed, runProgram ((feed bytes ++ [i]).map encode) s = .next (observed, t) := by
  induction bytes generalizing before s with
  | nil => exact ⟨s, by simpa using hs, rfl, rfl, fun t ht => ⟨_, runProgram_encode_cons ht rfl⟩⟩
  | cons b rest ih =>
    obtain ⟨v, hv, hagrees, hres0, hres1⟩ := exec_valByte_of_streamAgrees hs b
    obtain ⟨u, hu, hures0, hures1, hrun⟩ := ih hagrees
    refine ⟨u, by simpa using hu, hures0.trans hres0, hures1.trans hres1, fun t ht => ?_⟩
    obtain ⟨observed, hobserved⟩ := hrun t ht
    exact ⟨_, runProgram_encode_cons hv hobserved⟩

/-- How a measurement ends after a whole stream that began in the state `s`: in the error of the stream's gate with the
results of `s`, or in the stream's own answer. -/
structure EndsStream (bytes : List Byte) (m : Measurement) (s t : State) : Prop where
  err : errField t.status = errBits ((streamGate m.groups bytes).getD .ok)
  answer : streamGate m.groups bytes = none → t.res0 = m.res0 ∧ t.res1 = m.res1.getD s.res1
  unchanged : streamGate m.groups bytes ≠ none → t.res0 = s.res0 ∧ t.res1 = s.res1

/-- THE RUN of VAL_START, a stream's bytes and a measurement, from any state. -/
theorem runProgram_streamMeasurement {bytes : List Byte} {i : Instr} {m : Measurement}
    (hm : streamMeasurement bytes i = some m) (s : State) :
    ∃ observed t, runProgram ((Instr.valStart :: feed bytes ++ [i]).map encode) s = .next (observed, t)
      ∧ EndsStream bytes m s t := by
  obtain ⟨u, hu, hres0, hres1, hrun⟩ := runProgram_feed_then i bytes (streamAgrees_startStream (finishOk s))
  rw [List.nil_append] at hu
  have hexec := exec_streamMeasurement hu hm
  have hmeas := measGate_of_streamAgrees hu (groups_le_two hm)
  have hrun' : ∀ t, exec i u = .next t →
      ∃ observed, runProgram ((Instr.valStart :: feed bytes ++ [i]).map encode) s = .next (observed, t) := fun t ht =>
    have ⟨_, hobserved⟩ := hrun t ht
    ⟨_, runProgram_encode_cons (exec_valStart s) hobserved⟩
  cases hgate : streamGate m.groups bytes with
  | none =>
    rw [gated_of_measGate_none (hmeas.trans hgate)] at hexec
    obtain ⟨observed, hobserved⟩ := hrun' _ hexec
    obtain ⟨hfinish0, hfinish1⟩ := m.finish_results u
    refine ⟨observed, _, hobserved, ?_, fun _ => ⟨hfinish0, ?_⟩, fun hne => absurd hgate hne⟩
    · rw [hgate]; exact m.errField_finish u
    · rw [hfinish1, hres1]; rfl
  | some e =>
    rw [gated_of_measGate_some (hmeas.trans hgate)] at hexec
    obtain ⟨observed, hobserved⟩ := hrun' _ hexec
    refine ⟨observed, _, hobserved, ?_, fun hnone => ?_, fun _ => ⟨hres0, hres1⟩⟩
    · rw [hgate]; exact errField_setErr _ _
    · rw [hgate] at hnone; cases hnone

theorem EndsStream.err_eq_zero_iff {bytes : List Byte} {m : Measurement} {s t : State} (h : EndsStream bytes m s t) :
    errField t.status = 0#4 ↔ streamGate m.groups bytes = none := by
  rw [h.err]
  cases hgate : streamGate m.groups bytes with
  | none => exact iff_of_true rfl rfl
  | some e => exact iff_of_false (errBits_ne_zero (streamGate_ne_ok hgate)) (by simp)

/-! ### The statements -/

/-- O27's clauses for one measurement. -/
theorem runProgram_streamMeasurement_iff {bytes : List Byte} {i : Instr} {m : Measurement}
    (hm : streamMeasurement bytes i = some m) (s : State) :
    ∃ observed t, runProgram ((Instr.valStart :: feed bytes ++ [i]).map encode) s = .next (observed, t)
      ∧ (errField t.status = 0#4 ↔ validate bytes = .ok ∧ m.groups.toNat ≤ bytes.length / 3)
      ∧ (errField t.status = 0#4 → t.res0 = m.res0 ∧ t.res1 = m.res1.getD s.res1)
      ∧ (errField t.status ≠ 0#4 → t.res0 = s.res0 ∧ t.res1 = s.res1) := by
  obtain ⟨observed, t, hrun, hends⟩ := runProgram_streamMeasurement hm s
  have herr := hends.err_eq_zero_iff
  exact ⟨observed, t, hrun, herr.trans (streamGate_eq_none_iff _ _), fun h => hends.answer (herr.mp h),
    fun h => hends.unchanged (mt herr.mpr h)⟩

/-- Settles O27, each of the five by its answer to the stream. -/
theorem measurementsComeOnlyFromValidatedStreams : Obligations.MeasurementsComeOnlyFromValidatedStreams := by
  intro bytes s e he
  simp only [List.mem_cons, List.not_mem_nil, or_false] at he
  rcases he with rfl | rfl | rfl | rfl | rfl
  · exact runProgram_streamMeasurement_iff (bytes := bytes) (i := .measT) rfl s
  · exact runProgram_streamMeasurement_iff (bytes := bytes) (i := .measH) rfl s
  · exact runProgram_streamMeasurement_iff (bytes := bytes) (i := .measId) rfl s
  · exact runProgram_streamMeasurement_iff (bytes := bytes) (i := .measTh .temperatureFirst) rfl s
  · exact runProgram_streamMeasurement_iff (bytes := bytes) (i := .measTh .humidityFirst) rfl s

/-- Each measurement request has an answer to every stream, with RES1 in it for MEAS_TH. -/
theorem streamMeasurement_of_mem {i : Instr}
    (hi : i ∈ [Instr.measT, .measH, .measId, .measTh .temperatureFirst, .measTh .humidityFirst]) (bytes : List Byte) :
    ∃ m, streamMeasurement bytes i = some m ∧ (opcodeOfInstr i = .measTh → ∃ v, m.res1 = some v) := by
  simp only [List.mem_cons, List.not_mem_nil, or_false] at hi
  rcases hi with rfl | rfl | rfl | rfl | rfl
  · exact ⟨_, rfl, by simp [opcodeOfInstr]⟩
  · exact ⟨_, rfl, by simp [opcodeOfInstr]⟩
  · exact ⟨_, rfl, by simp [opcodeOfInstr]⟩
  · exact ⟨_, rfl, fun _ => ⟨_, rfl⟩⟩
  · exact ⟨_, rfl, fun _ => ⟨_, rfl⟩⟩

/-- Settles O28: both runs give the one answer of the stream. -/
theorem freshStreamHidesTheStateBefore : Obligations.FreshStreamHidesTheStateBefore := by
  intro bytes s s' i hi
  obtain ⟨m, hm, hboth⟩ := streamMeasurement_of_mem hi bytes
  obtain ⟨observed, t, hrun, hends⟩ := runProgram_streamMeasurement hm s
  obtain ⟨observed', t', hrun', hends'⟩ := runProgram_streamMeasurement hm s'
  refine ⟨observed, t, observed', t', hrun, hrun', hends.err.trans hends'.err.symm, fun hok => ?_⟩
  have hgate : streamGate m.groups bytes = none := hends.err_eq_zero_iff.mp hok
  obtain ⟨hres0, hres1⟩ := hends.answer hgate
  obtain ⟨hres0', hres1'⟩ := hends'.answer hgate
  refine ⟨hres0.trans hres0'.symm, fun hth => ?_⟩
  obtain ⟨v, hv⟩ := hboth hth
  rw [hres1, hres1', hv, Option.getD_some, Option.getD_some]

end Sys2Proof.Machine
end

section
/-! PROOF. The sensor profile's requests (44_profile.md): PROF_SET (O30) and PROF_DUR (O31). -/

namespace Sys2Proof.Machine

open Sys2Proof.Safety

/-! ### PSEL and MODE in a word's argument (30_encoding.md R82, R87) -/

/-- The values of PSEL below the reserved one. -/
theorem pselReserved_eq_false_iff (psel : BitVec 2) : pselReserved psel = false ↔ psel.toNat < 3 := by
  revert psel; decide

/-- A legal P2 argument has its upper bits zero and a PSEL that is not reserved. -/
theorem toNat_lt_three_iff_legal (arg : Half) : arg.toNat < 3 ↔
    arg &&& mustBeZero .p2 = 0#16 ∧ wellFormed (requestOf .profSet arg) = true := by
  rw [and_mustBeZero_eq_zero_iff, requestOf, wellFormed, Bool.not_eq_true', pselReserved_eq_false_iff]
  simp only [operandWidth, BitVec.extractLsb'_toNat, Nat.shiftRight_zero]
  omega

/-- The mode that a legal M1 argument names (44_profile.md R201). -/
theorem modeOfBit_of_lt_two {arg : Half} (h : arg.toNat < 2) :
    modeOfBit (arg.extractLsb' 0 1) = if arg = 1#16 then .lowPower else .normal := by
  have hcases : arg = 0#16 ∨ arg = 1#16 := by bv_omega
  rcases hcases with rfl | rfl <;> rfl

/-! ### The two requests -/

/-- PROF_SET of an assigned PSEL writes PROF_SEL (44_profile.md R200). -/
theorem exec_profSet {psel : BitVec 2} (h : psel ≠ 3#2) (s : State) :
    exec (.profSet psel) s = .next { finishOk s with profSel := psel } := by
  simp [exec, execProfSet, pselReserved, h]

/-- PROF_DUR reads the active row (44_profile.md R201). -/
theorem exec_profDur (mode : PowerMode) (s : State) : exec (.profDur mode) s =
    .next (finishRes0 ((maxDuration (activeProfile s) mode).setWidth 32) s) := rfl

/-- PROF_SEL and the parameters, which no ending of a request writes, select the row (10_state.md R36). -/
theorem activeProfile_finishOk_profSel (psel : BitVec 2) (s : State) :
    activeProfile { finishOk s with profSel := psel } = profileRow s.params psel := by
  rw [activeProfile, finishOk_params]

/-! ### The statements -/

/-- Settles O30: an assigned PSEL selects its row, and PSEL = 3 is a reserved field value. -/
theorem profSetSelectsTheProfile : Obligations.ProfSetSelectsTheProfile := by
  refine ⟨fun psel s hpsel => ?_, fun s => reservedFieldValuesRaiseIllegalArg (.profSet 3#2) s rfl,
    wordRuns_of_legal_iff (o := .profSet) fun arg => decide_eq_true_iff.trans (toNat_lt_three_iff_legal arg)⟩
  exact ⟨_, exec_profSet hpsel s, endsWith_finishOk { s with profSel := psel }, activeProfile_finishOk_profSel psel s⟩

/-- Settles O31: each mode's duration is one result, and a legal argument names a mode. -/
theorem profDurGivesTheActiveDuration : Obligations.ProfDurGivesTheActiveDuration := by
  refine ⟨fun s => ⟨?_, ?_⟩,
    wordRuns_congr (wordRuns_of_wellFormed (o := .profDur) (fun _ => rfl) fun _ => decide_eq_true_iff)
      fun arg harg => ?_⟩
  · exact ⟨_, exec_profDur .normal s, endsWith_finishRes0 _ s⟩
  · exact ⟨_, exec_profDur .lowPower s, endsWith_finishRes0 _ s⟩
  · rw [requestOf, modeOfBit_of_lt_two (of_decide_eq_true harg)]

end Sys2Proof.Machine
end

section
/-! PROOF. The block control requests (45_system.md): NOP (O1), RST (O2) and REG_RD (O4). -/

namespace Sys2Proof.Machine

open Sys2Proof.Safety

/-! ### NOP and RST -/

/-- NOP is `ok` and nothing more (45_system.md R215). -/
theorem exec_nop (s : State) : exec .nop s = .next (finishOk s) := rfl

/-- ERR is already zero in a reset STATUS. -/
theorem finishOk_blockReset (s : State) : finishOk (blockReset s) = blockReset s := by
  have herr : setErr 0x0000#16 (errBits .ok) = 0x0000#16 := by decide
  rw [finishOk, blockReset_status, herr]
  rfl

theorem exec_rst (s : State) : exec .rst s = .next (blockReset s) := by
  rw [exec, execRst, finishOk_blockReset]

/-- The reset of the block has every value of the table of 70_reset_and_hazards.md R260. -/
theorem atReset_blockReset (s : State) : AtReset (blockReset s) :=
  ⟨blockReset_status s, blockReset_crc s, blockReset_vcrc s, blockReset_vhold s, blockReset_vgroups s,
    blockReset_failgrp s, blockReset_w0 s, blockReset_w1 s, blockReset_res0 s, blockReset_res1 s, blockReset_profSel s⟩

/-! ### Register numbers (10_state.md R38) -/

/-- A one-bit view as the host reads it (20_memory.md R64). -/
theorem setWidth_ofBool (b : Bool) : (BitVec.ofBool b).setWidth 32 = if b then 1#32 else 0#32 := by cases b <;> rfl

/-- The 14 assigned register numbers, each with what a read of it gives: the table that REG_RD's statement lists. -/
def numberedRegisters (s : State) : List (BitVec 4 × Word) :=
  [(0x0#4, (0#9 ++ s.status.extractLsb' 0 7).setWidth 32), (0x1#4, s.crc.setWidth 32),
    (0x2#4, s.vcrc.setWidth 32), (0x3#4, s.vgroups.setWidth 32), (0x4#4, s.failgrp.setWidth 32),
    (0x5#4, s.w0.setWidth 32), (0x6#4, s.w1.setWidth 32)]
  ++ [(0x7#4, s.profSel.setWidth 32), (0x8#4, (activeProfile s).durNormal.setWidth 32),
    (0x9#4, (activeProfile s).durLp.setWidth 32),
    (0xA#4, if (activeProfile s).sleepCap then 1#32 else 0#32), (0xB#4, 240#32), (0xC#4, s.res1),
    (0xD#4, s.vhold.setWidth 32)]

/-- The model reads each assigned number by that table. -/
theorem readRegister_of_mem_numberedRegisters {s : State} :
    ∀ e ∈ numberedRegisters s, readRegister s e.1 = some e.2 := by
  rw [numberedRegisters, ← setWidth_ofBool, ← List.forall_iff_forall_mem]
  exact ⟨rfl, rfl, rfl, rfl, rfl, rfl, rfl, rfl, rfl, rfl, rfl, rfl, rfl, rfl⟩

theorem mem_reservedRegs_iff (reg : BitVec 4) : reg ∈ [0xE#4, 0xF#4] ↔ regReserved reg = true := by
  simp [regReserved]

/-- The numbers of REG below the reserved ones. -/
theorem regReserved_eq_false_iff : ∀ reg : BitVec 4, regReserved reg = false ↔ reg.toNat < 14 := by decide

/-- A legal R4 argument has its upper bits zero and a REG that is not reserved (30_encoding.md R82, R87). -/
theorem toNat_lt_fourteen_iff_legal (arg : Half) : arg.toNat < 14 ↔
    arg &&& mustBeZero .r4 = 0#16 ∧ wellFormed (requestOf .regRd arg) = true := by
  rw [and_mustBeZero_eq_zero_iff, requestOf, wellFormed, Bool.not_eq_true', regReserved_eq_false_iff]
  simp only [operandWidth, BitVec.extractLsb'_toNat, Nat.shiftRight_zero]
  omega

/-- REG_RD of a number that reads gives the value read (45_system.md R217). -/
theorem exec_regRd {reg : BitVec 4} {v : Word} {s : State} (h : readRegister s reg = some v) :
    exec (.regRd reg) s = .next (finishRes0 v s) := by
  rw [exec, execRegRd, h]

/-! ### The statements -/

/-- Settles O1: NOP ends in `ok` on the state as it was. -/
theorem nopOnlyClearsErr : Obligations.NopOnlyClearsErr :=
  ⟨fun s => ⟨_, exec_nop s, endsWith_finishOk s⟩,
    wordRuns_of_wellFormed (o := .nop) (fun _ => rfl) beq_zero_iff_toNat_lt⟩

/-- Settles O2: RST ends in the block's reset, which keeps the model's own two fields (log 10). -/
theorem rstLoadsEveryResetValue : Obligations.RstLoadsEveryResetValue :=
  ⟨fun s => ⟨_, exec_rst s, atReset_blockReset s, blockReset_params s, blockReset_requests s⟩,
    wordRuns_of_wellFormed (o := .rst) (fun _ => rfl) beq_zero_iff_toNat_lt⟩

/-- Settles O4: an assigned number reads by the table, and REG 0xE and 0xF are reserved field values. -/
theorem regRdReadsTheNumberedRegister : Obligations.RegRdReadsTheNumberedRegister := by
  refine ⟨fun s e he => ?_, fun s reg hreg => ?_,
    wordRuns_of_legal_iff (o := .regRd) fun arg => decide_eq_true_iff.trans (toNat_lt_fourteen_iff_legal arg)⟩
  · exact ⟨_, exec_regRd (readRegister_of_mem_numberedRegisters e he), endsWith_finishRes0 e.2 s⟩
  · exact reservedFieldValuesRaiseIllegalArg _ s (by simp [wellFormed, (mem_reservedRegs_iff reg).mp hreg])

end Sys2Proof.Machine
end

section
/-! SUPPORT. Why a request, and why a word, takes an error (60_exceptions.md R230), said once: every step that does not end
in `ok` is `raiseError` of a code for which one of these causes holds. -/

namespace Sys2Proof.Machine

/-- The two ways a measurement finds too few groups (43_converter.md R178 to R182). -/
def TooFewGroups (o : Opcode) (vgroups : Half) : Prop :=
  o ∈ [Opcode.measT, .measH, .measId] ∧ vgroups.toNat < 1 ∨ o = .measTh ∧ vgroups.toNat < 2

/-- The causes for which a request's own meaning raises an error, one constructor for each code that has one. -/
inductive ErrorCause (s : State) : Instr → ErrCode → Prop where
  | checksum {i : Instr} (hi : opcodeOfInstr i ∈ [Opcode.valCheck, .measT, .measH, .measId, .measTh])
      (hc : chkerrFlag s.status = true) : ErrorCause s i .checksum
  | unsupported {sel : BitVec 4} (hneeds : needsSleepCap sel = true) (hcap : (activeProfile s).sleepCap = false) :
      ErrorCause s (.encChk sel) .unsupported
  | illegalArg {i : Instr} (hwf : wellFormed i = false) : ErrorCause s i .illegalArg
  | noData {i : Instr} (hc : chkerrFlag s.status = false) (hfew : TooFewGroups (opcodeOfInstr i) s.vgroups) :
      ErrorCause s i .noData

/-- How a request ends: in `ok`, or in an error that has its cause, with nothing but ERR changed (R232). -/
inductive EndsByCause (s : State) (i : Instr) : State → Prop where
  | ok {t : State} (herr : errField t.status = 0#4) : EndsByCause s i t
  | raised {e : ErrCode} (hcause : ErrorCause s i e) : EndsByCause s i (raiseError e s)

/-- A request that raises no error of its own ends in `ok`. -/
theorem RequestEffect.errField_eq_zero {s t : State} {i : Instr} (h : RequestEffect s i t)
    (hi : mayRaise (opcodeOfInstr i) = false) : errField t.status = 0#4 := by
  cases h with
  | raised e hraise => simp [hi] at hraise
  | valStart => simp [startStream]
  | result | nop | rst | crcInit | crcByte | firstByte | secondByte | checksumByte | measTh | profSet => simp

namespace EndsByCause

/-- The request `i` is known to end in `u`; what it answered is `u`. -/
theorem of_next {s t u : State} {i : Instr} (hu : EndsByCause s i u)
    (h : (Host.Outcome.next u : Host.Outcome State Fault Refusal) = .next t) : EndsByCause s i t :=
  Host.Outcome.next.inj h ▸ hu

theorem of_not_mayRaise {s t : State} {i : Instr} (h : exec i s = .next t) (hi : mayRaise (opcodeOfInstr i) = false) :
    EndsByCause s i t :=
  .ok ((RequestEffect.of_exec h).errField_eq_zero hi)

/-- A reserved field value is the cause of ILLEGAL_ARG (30_encoding.md R85). -/
theorem of_not_wellFormed {s t : State} {i : Instr} (h : exec i s = .next t) (hwf : wellFormed i = false) :
    EndsByCause s i t :=
  of_next (.raised (.illegalArg hwf)) (exec_of_not_wellFormed hwf s ▸ h)

/-- A gated request by the gate's three answers (43_converter.md R178). -/
theorem of_gated {s t : State} {i : Instr} {n : Half} {effect : State → State} (h : gated n effect s = .next t)
    (hi : opcodeOfInstr i ∈ [Opcode.valCheck, .measT, .measH, .measId, .measTh])
    (hfew : s.vgroups.toNat < n.toNat → TooFewGroups (opcodeOfInstr i) s.vgroups)
    (hok : errField (effect s).status = 0#4) : EndsByCause s i t := by
  rcases gated_cases n effect s with ⟨hc, hg⟩ | ⟨hc, hn, hg⟩ | ⟨-, -, hg⟩
  · exact of_next (.raised (.checksum hi hc)) (hg ▸ h)
  · exact of_next (.raised (.noData hc (hfew hn))) (hg ▸ h)
  · exact of_next (.ok hok) (hg ▸ h)

/-- The measurements of one group (43_converter.md R179 to R181). -/
theorem of_gated_one {s t : State} {i : Instr} {v : Word} (h : gated 1#16 (finishRes0 v) s = .next t)
    (hi : opcodeOfInstr i ∈ [Opcode.measT, .measH, .measId]) : EndsByCause s i t :=
  of_gated h (by simp at hi ⊢; tauto) (fun hn => .inl ⟨hi, hn⟩) (errField_finishRes0 v s)

theorem of_exec_regRd {s t : State} {reg : BitVec 4} (h : exec (.regRd reg) s = .next t) :
    EndsByCause s (.regRd reg) t := by
  cases hv : readRegister s reg with
  | none => exact of_not_wellFormed h (by simp [wellFormed, (readRegister_none_iff s reg).mp hv])
  | some v => exact of_next (.ok (errField_finishRes0 v s)) (exec_regRd hv ▸ h)

theorem of_exec_enc {s t : State} {sel : BitVec 4} (h : exec (.enc sel) s = .next t) : EndsByCause s (.enc sel) t := by
  cases hop : opcodeRom sel with
  | none => exact of_not_wellFormed h (by simp [wellFormed, (opcodeRom_none_iff sel).mp hop])
  | some op => exact of_next (.ok (errField_finishRes0 _ s)) (exec_enc hop s ▸ h)

/-- ENC_CHK tests the reserved SEL before the capability (40_encoder.md R114). -/
theorem of_exec_encChk {s t : State} {sel : BitVec 4} (h : exec (.encChk sel) s = .next t) :
    EndsByCause s (.encChk sel) t := by
  cases hop : opcodeRom sel with
  | none => exact of_not_wellFormed h (by simp [wellFormed, (opcodeRom_none_iff sel).mp hop])
  | some op =>
    cases hneeds : needsSleepCap sel with
    | false => exact of_next (.ok (errField_finishRes0 _ s)) (exec_encChk hop (.inl hneeds) ▸ h)
    | true =>
      cases hcap : (activeProfile s).sleepCap with
      | false => exact of_next (.raised (.unsupported hneeds hcap)) (exec_encChk_unsupported hop hneeds hcap ▸ h)
      | true => exact of_next (.ok (errField_finishRes0 _ s)) (exec_encChk hop (.inr hcap) ▸ h)

theorem of_exec_valCheck {s t : State} (h : exec .valCheck s = .next t) : EndsByCause s .valCheck t := by
  cases hc : chkerrFlag s.status with
  | false => exact of_next (.ok (errField_finishRes0 _ s)) (exec_valCheck_of_passed hc ▸ h)
  | true => exact of_next (.raised (.checksum (by decide) hc)) (exec_valCheck_of_failed hc ▸ h)

theorem of_exec_profSet {s t : State} {psel : BitVec 2} (h : exec (.profSet psel) s = .next t) :
    EndsByCause s (.profSet psel) t := by
  by_cases hp : psel = 3#2
  · exact of_not_wellFormed h (by rw [hp]; rfl)
  · exact of_next (.ok (errField_setErr _ _)) (exec_profSet hp s ▸ h)

/-- Every request ends in `ok`, or in an error that has its cause. -/
theorem of_exec {i : Instr} {s t : State} (h : exec i s = .next t) : EndsByCause s i t := by
  cases i with
  | nop | rst | crcInit | crcByte | crcWord | valStart | valByte | convT | convH | convId | profDur =>
    exact of_not_mayRaise h rfl
  | regRd reg => exact of_exec_regRd h
  | enc sel => exact of_exec_enc h
  | encChk sel => exact of_exec_encChk h
  | valCheck => exact of_exec_valCheck h
  | measT | measH | measId => exact of_gated_one h (by simp [opcodeOfInstr])
  | measTh ord => exact of_gated h (by simp [opcodeOfInstr]) (fun hn => .inr ⟨rfl, hn⟩) (errField_finishRes01 _ _ s)
  | profSet psel => exact of_exec_profSet h

end EndsByCause

/-- Why a word takes an error: it names no request, or the request it names has a cause (30_encoding.md R88). -/
inductive WordErrorCause (s : State) (w : Word) : ErrCode → Prop where
  | decoding {d : DecodeError} (hd : decode w = .error d) : WordErrorCause s w (decodeErrCode d)
  | request {i : Instr} {e : ErrCode} (hd : decode w = .ok i) (hcause : ErrorCause s i e) : WordErrorCause s w e

/-- A word ends in `ok`, or changes ERR alone, to the code of a cause (R230, R232). -/
theorem perform_errField_cases {w : Word} {s t : State} (h : perform w s = .next t) :
    errField t.status = 0#4 ∨ ∃ e, WordErrorCause s w e ∧ t = raiseError e s := by
  cases hd : decode w with
  | error d => exact .inr ⟨_, .decoding hd, (Host.Outcome.next.inj (perform_error hd s ▸ h)).symm⟩
  | ok i =>
    cases EndsByCause.of_exec (perform_ok hd s ▸ h) with
    | ok herr => exact .inl herr
    | raised hcause => exact .inr ⟨_, .request hd hcause, rfl⟩

end Sys2Proof.Machine
end

section
/-! PROOF. Errors (60_exceptions.md): precise and never stopping the block (O41), each code with its causes (O42). -/

namespace Sys2Proof.Machine

open Sys2Proof.Safety

/-- No step stops the block: an idle one answers the same state (log 1), and every word has a next state (R232). -/
theorem step_next (s : State) : ∃ t, step s = .next t := by
  rcases takeRequest_cases s with ⟨-, hnone⟩ | ⟨w, rest, hreq, -⟩
  · exact ⟨s, by rw [step, hnone]⟩
  · rw [step_of_requests hreq]
    exact perform_next w _

theorem errField_raiseError (e : ErrCode) (s : State) : errField (raiseError e s).status = errBits e :=
  errField_setErr _ _

/-- Settles O41: an outcome whose ERR is not 0 is `raiseError`, which writes ERR alone. -/
theorem errorsArePreciseAndNeverStopTheBlock : Obligations.ErrorsArePreciseAndNeverStopTheBlock := by
  refine ⟨step_next, fun w s t h => ?_⟩
  rw [extractLsb'_err]
  intro herr
  rcases perform_errField_cases (step_present w s ▸ h) with hok | ⟨e, -, rfl⟩
  · exact absurd hok herr
  · rw [errField_raiseError]
    exact endsWith_raiseError e s

/-- Settles O42, by the causes of the error that a word takes. -/
theorem errorCodesHaveTheirCauses : Obligations.ErrorCodesHaveTheirCauses := by
  intro w s t h
  simp only [extractLsb'_err, getLsbD_chkerr]
  rcases perform_errField_cases (step_present w s ▸ h) with hok | ⟨e, hcause, rfl⟩
  · simp [hok]
  · rw [errField_raiseError]
    refine ⟨errBits_toNat_le e, ?_⟩
    cases hcause with
    | @decoding d hd => cases d <;> simp [decodeErrCode, errBits, hd]
    | request hd hcause =>
      cases hcause with
      | checksum hi hc => simpa [errBits, hc, hd] using hi
      | unsupported hneeds hcap => simpa [errBits, hcap, hd] using (needsSleepCap_iff _).mp hneeds
      | illegalArg hwf => simp [errBits, hd, hwf]
      | noData hc hfew => simpa [errBits, hc, hd, TooFewGroups] using hfew

end Sys2Proof.Machine
end

section
/-! PROOF. The block at reset: power-on and RST (O3), and the invariant there (O46). -/

namespace Sys2Proof.Machine

open Sys2Proof.Safety

/-- The block after power-on is its own reset (70_reset_and_hazards.md R260). -/
theorem blockReset_resetWith (p : Config.Params) : blockReset (State.resetWith p) = State.resetWith p := rfl

theorem atReset_resetWith (p : Config.Params) : AtReset (State.resetWith p) :=
  blockReset_resetWith p ▸ atReset_blockReset (State.resetWith p)

theorem stateOk_resetWith (p : Config.Params) : StateOk (State.resetWith p) :=
  blockReset_resetWith p ▸ stateOk_blockReset (State.resetWith p)

/-- Settles O3: the power-on state is a reset, and RST ends in the block's reset. -/
theorem powerOnAndRstLoadTheSameValues : Obligations.PowerOnAndRstLoadTheSameValues :=
  ⟨fun p => ⟨atReset_resetWith p, rfl⟩, atReset_resetWith Config.defaultParams, exec_rst⟩

/-- Settles O46: the power-on state is a reset, which the invariant holds of. -/
theorem resetStateIsOk : Obligations.ResetStateIsOk :=
  ⟨stateOk_resetWith, stateOk_resetWith Config.defaultParams⟩

end Sys2Proof.Machine
end

section
/-! PROOF. The request port: an idle block (O39), and a run of a host program as steps of the machine (O40). -/

namespace Sys2Proof.Machine

/-- Settles O39: with no word at the port there is nothing to take. -/
theorem idleBlockKeepsItsState : Obligations.IdleBlockKeepsItsState := by
  intro s hidle
  rw [step, takeRequest, hidle]

/-! ### No request reads or writes the port (log 1) -/

/-- The block with other words at the port. -/
def withRequests (ws : List Word) (s : State) : State := { s with requests := ws }

/-- An outcome with its next state changed. -/
def mapNext (f : State → State) : Host.Outcome State Fault Refusal → Host.Outcome State Fault Refusal
  | .next s => .next (f s)
  | .fault r => .fault r
  | .refused r => .refused r

@[simp] theorem mapNext_next (f : State → State) (s : State) : mapNext f (.next s) = .next (f s) := rfl

theorem withRequests_requests (s : State) : withRequests s.requests s = s := rfl

@[simp] theorem readRegister_withRequests (ws : List Word) (s : State) (reg : BitVec 4) :
    readRegister (withRequests ws s) reg = readRegister s reg := rfl

@[simp] theorem activeProfile_withRequests (ws : List Word) (s : State) :
    activeProfile (withRequests ws s) = activeProfile s := rfl

@[simp] theorem withRequests_status (ws : List Word) (s : State) : (withRequests ws s).status = s.status := rfl

@[simp] theorem measGate_withRequests (n : Half) (ws : List Word) (s : State) :
    measGate n (withRequests ws s) = measGate n s := rfl

/-- A gated request keeps the words at the port if its effect does. -/
theorem gated_withRequests (n : Half) {effect effect' : State → State} (ws : List Word) {s : State}
    (heffect : effect' (withRequests ws s) = withRequests ws (effect s)) :
    gated n effect' (withRequests ws s) = mapNext (withRequests ws) (gated n effect s) := by
  rw [gated, gated, measGate_withRequests]
  cases measGate n s with
  | none => exact congrArg Host.Outcome.next heffect
  | some e => rfl

theorem exec_withRequests (i : Instr) (ws : List Word) (s : State) :
    exec i (withRequests ws s) = mapNext (withRequests ws) (exec i s) := by
  cases i with
  | nop | rst | crcInit | crcByte | crcWord | valStart | convT | convH | convId | profDur => rfl
  | regRd reg =>
    rw [exec, exec, execRegRd, execRegRd, readRegister_withRequests]
    cases readRegister s reg <;> rfl
  | enc sel =>
    rw [exec, exec, execEnc, execEnc]
    cases opcodeRom sel <;> rfl
  | encChk sel =>
    rw [exec, exec, execEncChk, execEncChk, activeProfile_withRequests]
    cases opcodeRom sel with
    | none => rfl
    | some op => dsimp only; split <;> rfl
  | valByte b =>
    rw [exec, exec, execValByte, execValByte, withRequests_status]
    split
    · rfl
    · split <;> rfl
  | valCheck =>
    rw [exec, exec, execValCheck, execValCheck, withRequests_status]
    split <;> rfl
  | measT | measH | measId => exact gated_withRequests 1#16 ws rfl
  | measTh ord => cases ord <;> exact gated_withRequests 2#16 ws rfl
  | profSet psel =>
    rw [exec, exec, execProfSet, execProfSet]
    split <;> rfl

theorem perform_withRequests (w : Word) (ws : List Word) (s : State) :
    perform w (withRequests ws s) = mapNext (withRequests ws) (perform w s) := by
  cases hd : decode w with
  | error e => rw [perform_error hd, perform_error hd]; rfl
  | ok i => rw [perform_ok hd, perform_ok hd, exec_withRequests]

/-- A performed word leaves the words still to come at the port (log 1). -/
theorem requests_of_perform {w : Word} {s t : State} (h : perform w s = .next t) : t.requests = s.requests := by
  have hself : mapNext (withRequests s.requests) (perform w s) = perform w s :=
    (perform_withRequests w s.requests s).symm
  rw [h] at hself
  exact (congrArg State.requests (Host.Outcome.next.inj hself)).symm

/-! ### The machine's steps along the words at the port -/

/-- As many steps of the machine from `s`, a step at a time. -/
theorem coreRun_succ {s t : State} (h : step s = .next t) (k : Nat) :
    Host.Core.run Sys2Proof.core (k + 1) s = Host.Core.run Sys2Proof.core k t := by
  have hcore : Sys2Proof.core.step s = .next t := h
  simp only [Host.Core.run, hcore]

/-- The first step with a program at the port performs its first word and leaves the others there. -/
theorem step_program {w : Word} {s t : State} (h : perform w s = .next t) (ws : List Word) :
    step { s with requests := w :: ws ++ s.requests } = .next { t with requests := ws ++ t.requests } := by
  rw [step_of_requests rfl, requests_of_perform h]
  exact (perform_withRequests w (ws ++ s.requests) s).trans (congrArg (mapNext _) h)

/-- Settles O40, by induction on the words: each is a step of the machine, observed by its response. -/
theorem runsNeverStopAndAreSteps : Obligations.RunsNeverStopAndAreSteps := by
  intro ws
  induction ws with
  | nil => exact fun s => ⟨[], s, rfl, rfl, rfl, fun k hk => absurd hk (Nat.not_lt_zero k)⟩
  | cons w ws ih =>
    intro s
    obtain ⟨u, hu⟩ := perform_next w s
    obtain ⟨observed, t, hrun, hlen, hsteps, hobserved⟩ := ih u
    have hstep := coreRun_succ (step_program hu ws)
    refine ⟨response u :: observed, t, runProgram_cons hu hrun, congrArg (· + 1) hlen, (hstep _).trans hsteps,
      fun k hk => ?_⟩
    cases k with
    | zero => exact ⟨_, hstep 0, rfl⟩
    | succ k =>
      obtain ⟨v, hv, hresponse⟩ := hobserved k (Nat.lt_of_succ_lt_succ hk)
      exact ⟨v, (hstep (k + 1)).trans hv, hresponse⟩

end Sys2Proof.Machine
end

section
/-! SUPPORT. The rules of the host's side (70_reset_and_hazards.md R264 to R270): what a Command written, a response read
and a response fed do to the environment, and the parts of an operation in order. -/

namespace Sys2Proof.Machine

/-! ### Commands as the host writes them (40_encoder.md R115) -/

/-- The table of 30_encoding.md R86 read backwards finds no other opcode. -/
theorem sensorOpcode_of_commandOfOpcode {op : Half} {c : Command} (h : commandOfOpcode op = some c) :
    sensorOpcode c = op := by
  simpa using List.find?_some h

theorem firstByte_append_secondByte (op : Half) : firstByte op ++ secondByte op = op := by
  unfold firstByte secondByte; ext i hi; simp; grind

/-- The two bytes the host writes from RES0 (40_encoder.md R115). -/
theorem resultBytes_setWidth (op : Half) :
    (op.setWidth 32).extractLsb' 8 8 = firstByte op ∧ (op.setWidth 32).extractLsb' 0 8 = secondByte op := by
  constructor
  · unfold firstByte; ext i hi; simp; omega
  · unfold secondByte; ext i hi; simp; omega

/-- A Command written without an error, its waits owed and its operation in flight (R264 to R268). -/
structure Sent (d : Draw) (rest : List Draw) (c : Command) (env env' : Env) : Prop where
  block : env'.block = env.block
  draws : env'.draws = rest
  written : env'.written = (env.devAddr, firstByte (sensorOpcode c), secondByte (sensorOpcode c)) :: env.written
  inFlight : env'.inFlight = flightAfter env (some c)
  power : env'.power = (sentPower d (some c) env).1
  powerSettled : env'.powerSettled = (sentPower d (some c) env).2
  settleOwed : env'.settleOwed = max env.settleOwed (settleAfter (some c))
  measureOwed : env'.measureOwed = max env.measureOwed (measureAfter env.block (some c))
  breaches : env'.breaches = commandBreaches env (some c) ++ env.breaches

/-- A Command's write that fails: its operation is over, and no obligation but the Command's own is broken (R231). -/
structure SendFailed (c : Command) (env env' : Env) : Prop where
  inFlight : env'.inFlight = env.inFlight
  breaches : env'.breaches = commandBreaches env (some c) ++ env.breaches

/-- The host writes a Command's opcode, its first byte first (40_encoder.md R115). -/
def sendCommand (c : Command) (env : Env) : ActionResult × Env :=
  transportWrite (firstByte (sensorOpcode c)) (secondByte (sensorOpcode c)) env

/-- All that the write of a Command's opcode can do. -/
theorem sendCommand_cases (c : Command) (env : Env) :
    (env.draws = [] ∧ sendCommand c env = (.undrawn, env))
      ∨ ∃ d rest env', env.draws = d :: rest
        ∧ ((∃ e, d.busError = some e ∧ SendFailed c env env'
            ∧ sendCommand c env = (.busError e, env'))
          ∨ d.busError = none ∧ Sent d rest c env env'
            ∧ sendCommand c env = (.done [], env')) := by
  have hcases := transportWrite_cases (firstByte (sensorOpcode c)) (secondByte (sensorOpcode c)) env
  rw [firstByte_append_secondByte, commandOfOpcode_sensorOpcode] at hcases
  rcases hcases with h | ⟨d, rest, hdraws, ⟨e, env', hbus, hwrite, -, -, hflight, hbreach⟩ |
    ⟨env', hbus, hwrite, hblock, -, -, hrest, hwritten, hflight, hpower, hsettled, hsettle, hmeasure, hbreach⟩⟩
  · exact .inl h
  · exact .inr ⟨d, rest, env', hdraws, .inl ⟨e, hbus, ⟨hflight, hbreach⟩, hwrite⟩⟩
  · exact .inr ⟨d, rest, env', hdraws, .inr
      ⟨hbus, ⟨hblock, hrest, hwritten, hflight, hpower, hsettled, hsettle, hmeasure, hbreach⟩, hwrite⟩⟩

/-- A write that is answered without an error sends its Command. -/
theorem sendCommand_of_draws (c : Command) {env : Env} {d : Draw} {rest : List Draw} (hdraws : env.draws = d :: rest)
    (hbus : d.busError = none) : ∃ env', Sent d rest c env env'
      ∧ sendCommand c env = (.done [], env') := by
  rcases sendCommand_cases c env with ⟨hnil, -⟩ | ⟨d', rest', env', hcons, h⟩
  · rw [hdraws] at hnil; cases hnil
  · rw [hdraws] at hcons
    cases hcons
    rcases h with ⟨e, he, -⟩ | ⟨-, hsent, hwrite⟩
    · rw [hbus] at he; cases he
    · exact ⟨env', hsent, hwrite⟩

/-! ### Reading a response (R267, R268) -/

/-- The environment after a read, failed or not. -/
def afterRead (rest : List Draw) (env : Env) : Env :=
  { env with
    draws := rest
    inFlight := env.inFlight.eraseP awaitsResponse
    breaches := readBreaches env ++ env.breaches }

/-- The environment after a read that answered `bytes`: one response more, none of it fed yet. -/
def withResponse (bytes : List Byte) (env : Env) : Env := { env with responses := env.responses ++ [⟨bytes, 0⟩] }

theorem withResponse_responses (bytes : List Byte) (env : Env) :
    (withResponse bytes env).responses[env.responses.length]? = some ⟨bytes, 0⟩ := by
  simp [withResponse]

/-- A read that is answered with as many bytes as were asked for. -/
theorem transportRead_of_draws {env : Env} {d : Draw} {rest : List Draw} (hdraws : env.draws = d :: rest)
    (hbus : d.busError = none) :
    transportRead d.bytes.length env = (.done d.bytes, withResponse d.bytes (afterRead rest env)) := by
  simp [transportRead, hdraws, hbus, afterRead, withResponse]

/-- All that a read can do. -/
theorem transportRead_cases (n : Nat) (env : Env) :
    transportRead n env = (.undrawn, env)
      ∨ ∃ d rest, env.draws = d :: rest
        ∧ ((∃ e, d.busError = some e ∧ transportRead n env = (.busError e, afterRead rest env))
          ∨ d.busError = none ∧ d.bytes.length = n
            ∧ transportRead n env = (.done d.bytes, withResponse d.bytes (afterRead rest env))) := by
  cases hdraws : env.draws with
  | nil => exact .inl (by simp [transportRead, hdraws])
  | cons d rest =>
    cases hbus : d.busError with
    | some e => exact .inr ⟨d, rest, rfl, .inl ⟨e, hbus, by simp [transportRead, hdraws, hbus, afterRead]⟩⟩
    | none =>
      by_cases hlen : d.bytes.length = n
      · exact .inr ⟨d, rest, rfl, .inr ⟨hbus, hlen, hlen ▸ transportRead_of_draws hdraws hbus⟩⟩
      · exact .inl (by simp [transportRead, hdraws, hbus, hlen])

/-! ### Feeding a response (R269, 20_memory.md R70) -/

theorem hostRequest_block {i : Instr} {env : Env} {t : State} (h : exec i env.block = .next t) :
    (hostRequest i env).block = t := by
  rw [hostRequest_of_next ((perform_encode i env.block).trans h)]

theorem hostRequest_fresh (i : Instr) (env : Env) : (hostRequest i env).fresh = freshAfter env.fresh i := by
  obtain ⟨t, ht⟩ := perform_next (encode i) env.block
  rw [hostRequest_of_next ht]

/-- A byte fed is the next byte of its own response from then on. -/
theorem hostFeed_responses {n k : Nat} {env : Env} {r : Response} (hr : env.responses[n]? = some r)
    (hk : k < r.bytes.length) : (hostFeed n k env).responses[n]? = some { r with fed := k + 1 } := by
  obtain ⟨hn, -⟩ := List.getElem?_eq_some_iff.mp hr
  rw [hostFeed_of_byte hr (List.getElem?_eq_getElem hk)]
  simp [hn]

/-! ### The parts of an operation in order (R270) -/

theorem runParts_request_ok {i : Instr} {env : Env} {t : State} (h : exec i env.block = .next t)
    (hok : errField t.status = 0#4) (ps : List OpPart) :
    runParts (.request i :: ps) env = runParts ps (hostRequest i env) := by
  simp [runParts, runPart, hostRequest_block h, hok]

theorem runParts_request_error {i : Instr} {env : Env} {t : State} (h : exec i env.block = .next t)
    (herr : errField t.status ≠ 0#4) (ps : List OpPart) :
    runParts (.request i :: ps) env = (.blockError (errField t.status), hostRequest i env) := by
  simp [runParts, runPart, hostRequest_block h, herr]

/-- What is left of an operation after a transport action: nothing where the transport failed (R231). -/
def goOn (ps : List OpPart) : ActionResult × Env → OpResult × Env
  | (.done _, env) => runParts ps env
  | (.busError e, env) => (.busError e, env)
  | (.undrawn, env) => (.undrawn, env)

/-- With a Command's opcode in RES0 the host writes that Command (40_encoder.md R115). -/
theorem runParts_sendResult {c : Command} {env : Env} (hres : env.block.res0 = (sensorOpcode c).setWidth 32)
    (ps : List OpPart) : runParts (.sendResult :: ps) env
      = goOn ps (sendCommand c env) := by
  obtain ⟨hfirst, hsecond⟩ := resultBytes_setWidth (sensorOpcode c)
  have hwrite : transportWrite (env.block.res0.extractLsb' 8 8) (env.block.res0.extractLsb' 0 8) env
      = sendCommand c env := by
    rw [hres, hfirst, hsecond, sendCommand]
  rw [runParts, runPart, hwrite]
  obtain ⟨result, env'⟩ := sendCommand c env
  cases result <;> rfl

theorem runParts_waitResult (ps : List OpPart) (env : Env) :
    runParts (.waitResult :: ps) env = runParts ps (hostWait env.block.res0.toNat env) := rfl

theorem settleUs_toNat : settleUs.toNat = 240 := rfl

/-- The settle wait is the last part of the operations that have it (R270). -/
theorem runParts_waitSettle (env : Env) : runParts [.waitSettle] env = (.ok, hostWait 240 env) := by
  rw [runParts, runPart, settleUs_toNat]; rfl

/-- The host's side of a response read: a new stream, and the bytes in the sensor's order (R269, 20_memory.md R70). -/
def feedNewResponse (bytes : List Byte) (env : Env) : Env :=
  feedResponse env.responses.length bytes.length 0 (hostRequest .valStart (withResponse bytes env))

theorem runParts_receive_of_draws {env : Env} {d : Draw} {rest : List Draw} (hdraws : env.draws = d :: rest)
    (hbus : d.busError = none) (ps : List OpPart) :
    runParts (.receive d.bytes.length :: ps) env = runParts ps (feedNewResponse d.bytes (afterRead rest env)) := by
  rw [runParts, runPart, transportRead_of_draws hdraws hbus]; rfl

/-- All that receiving a response can do. -/
theorem runParts_receive_cases (n : Nat) (ps : List OpPart) (env : Env) :
    runParts (.receive n :: ps) env = (.undrawn, env)
      ∨ ∃ d rest, env.draws = d :: rest
        ∧ ((∃ e, d.busError = some e ∧ runParts (.receive n :: ps) env = (.busError e, afterRead rest env))
          ∨ d.busError = none ∧ d.bytes.length = n
            ∧ runParts (.receive n :: ps) env = runParts ps (feedNewResponse d.bytes (afterRead rest env))) := by
  rcases transportRead_cases n env with h | ⟨d, rest, hdraws, ⟨e, hbus, h⟩ | ⟨hbus, rfl, -⟩⟩
  · exact .inl (by rw [runParts, runPart, h])
  · exact .inr ⟨d, rest, hdraws, .inl ⟨e, hbus, by rw [runParts, runPart, h]⟩⟩
  · exact .inr ⟨d, rest, hdraws, .inr ⟨hbus, rfl, runParts_receive_of_draws hdraws hbus ps⟩⟩

/-! ### The requests that load a Command (40_encoder.md R113, R114) -/

theorem exec_enc_commandSel (c : Command) (s : State) :
    exec (.enc (commandSel c)) s = .next (finishRes0 ((sensorOpcode c).setWidth 32) s) :=
  exec_enc (opcodeRom_commandSel c) s

theorem exec_encChk_commandSel (c : Command) {s : State} (hcap : (activeProfile s).sleepCap = true) :
    exec (.encChk (commandSel c)) s = .next (finishRes0 ((sensorOpcode c).setWidth 32) s) :=
  exec_encChk (opcodeRom_commandSel c) (.inr hcap)

/-- A request that loads a Command, and its write. -/
theorem runParts_send {c : Command} {i : Instr} {env : Env}
    (h : exec i env.block = .next (finishRes0 ((sensorOpcode c).setWidth 32) env.block)) (ps : List OpPart) :
    runParts (.request i :: .sendResult :: ps) env
      = goOn ps (sendCommand c (hostRequest i env)) := by
  rw [runParts_request_ok h (errField_finishRes0 _ _)]
  exact runParts_sendResult (by rw [hostRequest_block h, finishRes0_res0]) ps

end Sys2Proof.Machine
end

section
/-! PROOF. sleep() and wakeup(): without the capability (O48), and where they leave the sensor (O53, O54). -/

namespace Sys2Proof.Machine

/-! ### The two operations by the capability (40_encoder.md R114) -/

theorem runParts_encChk_unsupported {sel : BitVec 4} {op : Half} {env : Env} (hop : opcodeRom sel = some op)
    (hneeds : needsSleepCap sel = true) (hcap : (activeProfile env.block).sleepCap = false) (ps : List OpPart) :
    runParts (.request (.encChk sel) :: ps) env = (.blockError 2#4, hostRequest (.encChk sel) env) := by
  have hunsupported := exec_encChk_unsupported hop hneeds hcap
  have herr : errField (raiseError .unsupported env.block).status = 2#4 := errField_raiseError .unsupported _
  rw [runParts_request_error hunsupported (by rw [herr]; decide), herr]

theorem runOp_sleep_unsupported {env : Env} (hcap : (activeProfile env.block).sleepCap = false) :
    runOp .sleep env = (.blockError 2#4, hostRequest (.encChk 0x0#4) env) :=
  runParts_encChk_unsupported (opcodeRom_commandSel .sleep) rfl hcap _

theorem runOp_wakeup_unsupported {env : Env} (hcap : (activeProfile env.block).sleepCap = false) :
    runOp .wakeup env = (.blockError 2#4, hostRequest (.encChk 0x1#4) env) :=
  runParts_encChk_unsupported (opcodeRom_commandSel .wakeUp) rfl hcap _

theorem runOp_sleep_supported {env : Env} (hcap : (activeProfile env.block).sleepCap = true) :
    runOp .sleep env = goOn [] (sendCommand .sleep (hostRequest (.encChk 0x0#4) env)) :=
  runParts_send (exec_encChk_commandSel .sleep hcap) _

theorem runOp_wakeup_supported {env : Env} (hcap : (activeProfile env.block).sleepCap = true) :
    runOp .wakeup env = goOn [.waitSettle] (sendCommand .wakeUp (hostRequest (.encChk 0x1#4) env)) :=
  runParts_send (exec_encChk_commandSel .wakeUp hcap) _

/-- Settles O48: the request that would load the opcode raises UNSUPPORTED, and no request moves the sensor. -/
theorem sleepWithoutCapabilitySendsNothing : Obligations.SleepWithoutCapabilitySendsNothing := by
  intro env hcap op hop
  have hends : ∃ i, runOp op env = (.blockError 2#4, hostRequest i env) := by
    simp only [List.mem_cons, List.not_mem_nil, or_false] at hop
    rcases hop with rfl | rfl
    · exact ⟨_, runOp_sleep_unsupported hcap⟩
    · exact ⟨_, runOp_wakeup_unsupported hcap⟩
  obtain ⟨i, hrun⟩ := hends
  rw [hrun]
  exact ⟨rfl, hostRequest_written i env, hostRequest_draws i env, hostRequest_power i env,
    hostRequest_powerSettled i env⟩

/-! ### Where a Command sent leaves the sensor (R264) -/

/-- With the settle wait elapsed a Command takes R264's transition. -/
theorem Sent.power_eq {d : Draw} {rest : List Draw} {c : Command} {env env' : Env} (h : Sent d rest c env env')
    (hsettle : env.settleOwed = 0) {p : SensorPower × Option SensorPower}
    (hp : powerAfter env.sensorCanSleep env.power (some c) = some p) : env'.power = p.1 ∧ env'.powerSettled = p.2 := by
  have hsent : sentPower d (some c) env = p := by rw [sentPower, if_pos hsettle, hp]; rfl
  exact ⟨hsent ▸ h.power, hsent ▸ h.powerSettled⟩

theorem Sent.settleOwed_eq {d : Draw} {rest : List Draw} {c : Command} {env env' : Env} (h : Sent d rest c env env')
    (hsettle : env.settleOwed = 0) : env'.settleOwed = settleAfter (some c) := by
  rw [h.settleOwed, hsettle, Nat.zero_max]

/-- A WakeUp leaves the sensor where it was until its settle wait brings Idle (R264, R270). -/
theorem powerAfter_wakeUp (canSleep : Bool) (p : SensorPower) :
    ∃ settled, powerAfter canSleep p (some .wakeUp) = some (p, settled) ∧ settled.getD p = .idle := by
  cases p with
  | idle => exact ⟨none, rfl, rfl⟩
  | sleeping => exact ⟨some .idle, rfl, rfl⟩

/-- A WakeUp sent with no settle wait owed: Idle where its 240 microseconds have passed, and until then as it was. -/
theorem Sent.hostWait_power_wakeUp {d : Draw} {rest : List Draw} {env env' : Env} (h : Sent d rest .wakeUp env env')
    (hsettle : env.settleOwed = 0) (us : Nat) :
    (hostWait us env').power = if 240 ≤ us then .idle else env.power := by
  obtain ⟨settled, hpower, hidle⟩ := powerAfter_wakeUp env.sensorCanSleep env.power
  obtain ⟨hnow, hthen⟩ := h.power_eq hsettle hpower
  have howed : env'.settleOwed = 240 := h.settleOwed_eq hsettle
  rw [hostWait_power, howed, hnow, hthen, hidle]

/-- Settles O54: the WakeUp owes 240 microseconds, at whose end the sensor is Idle. -/
theorem wakeUpTakesTheSettleWait : Obligations.WakeUpTakesTheSettleWait := by
  intro env d rest us hasleep hsettle hdraws hbus
  obtain ⟨env', hsent, hwrite⟩ := sendCommand_of_draws .wakeUp hdraws hbus
  have hpower := hsent.hostWait_power_wakeUp hsettle us
  have hsend : transportWrite 0x35#8 0x17#8 env = (.done [], env') := hwrite
  rw [hsend, hpower, hasleep]
  by_cases hus : 240 ≤ us <;> simp [hus]

/-- An operation of one write ends Ok only where its write is answered without an error. -/
theorem goOn_ok_cases {c : Command} {env : Env} {ps : List OpPart}
    (h : (goOn ps (sendCommand c env)).1 = .ok) :
    ∃ d rest env', Sent d rest c env env'
      ∧ goOn ps (sendCommand c env) = runParts ps env' := by
  rcases sendCommand_cases c env with ⟨-, hwrite⟩ | ⟨d, rest, env', -, ⟨e, -, -, hwrite⟩ | ⟨-, hsent, hwrite⟩⟩
  · rw [hwrite] at h; cases h
  · rw [hwrite] at h; cases h
  · exact ⟨d, rest, env', hsent, by rw [hwrite]; rfl⟩

/-- wakeup() ends in the settle wait of its WakeUp. -/
theorem runOp_wakeup_of_ok {env : Env} (hsettle : env.settleOwed = 0) (hok : (runOp .wakeup env).1 = .ok) :
    (runOp .wakeup env).2.power = .idle ∧ (runOp .wakeup env).2.settleOwed = 0 := by
  cases hcap : (activeProfile env.block).sleepCap with
  | false => rw [runOp_wakeup_unsupported hcap] at hok; cases hok
  | true =>
    rw [runOp_wakeup_supported hcap] at hok ⊢
    obtain ⟨d, rest, env', hsent, hrun⟩ := goOn_ok_cases (c := .wakeUp) hok
    have hsettle' : (hostRequest (.encChk 0x1#4) env).settleOwed = 0 := by rw [hostRequest_settleOwed, hsettle]
    have howed : env'.settleOwed = 240 := hsent.settleOwed_eq hsettle'
    rw [hrun, runParts_waitSettle]
    exact ⟨hsent.hostWait_power_wakeUp hsettle' 240, by rw [hostWait_settleOwed, howed]⟩

theorem runOp_sleep_of_ok {env : Env} (hsettle : env.settleOwed = 0) (hidle : env.power = .idle)
    (hcan : env.sensorCanSleep = true) (hok : (runOp .sleep env).1 = .ok) :
    (runOp .sleep env).2.power = .sleeping ∧ (runOp .sleep env).2.settleOwed = 0 := by
  cases hcap : (activeProfile env.block).sleepCap with
  | false => rw [runOp_sleep_unsupported hcap] at hok; cases hok
  | true =>
    rw [runOp_sleep_supported hcap] at hok ⊢
    obtain ⟨d, rest, env', hsent, hrun⟩ := goOn_ok_cases (c := .sleep) hok
    have hsettle' : (hostRequest (.encChk 0x0#4) env).settleOwed = 0 := by rw [hostRequest_settleOwed, hsettle]
    have hpower : powerAfter (hostRequest (.encChk 0x0#4) env).sensorCanSleep (hostRequest (.encChk 0x0#4) env).power
        (some .sleep) = some (.sleeping, none) := by
      rw [hostRequest_sensorCanSleep, hostRequest_power, hcan, hidle]; rfl
    obtain ⟨hsleeping, -⟩ := hsent.power_eq hsettle' hpower
    exact hrun ▸ ⟨hsleeping, hsent.settleOwed_eq hsettle'⟩

/-- A Command answered without an error is written to the host's bus address (R115), and its operation goes on. -/
theorem goOn_of_draws (c : Command) (i : Instr) {env : Env} {d : Draw} {rest : List Draw}
    (hdraws : env.draws = d :: rest) (hbus : d.busError = none) (ps : List OpPart) :
    ∃ env', env'.written = (env.devAddr, firstByte (sensorOpcode c), secondByte (sensorOpcode c)) :: env.written
      ∧ goOn ps (sendCommand c (hostRequest i env))
        = runParts ps env' := by
  obtain ⟨env', hsent, hwrite⟩ := sendCommand_of_draws c ((hostRequest_draws i env).trans hdraws) hbus
  refine ⟨env', ?_, by rw [hwrite]; rfl⟩
  rw [hsent.written, hostRequest_devAddr, hostRequest_written]

/-- Settles O53: an operation that ends Ok has sent its Command, which moves the sensor as R264 says. -/
theorem sleepAndWakeUpMoveTheSensor : Obligations.SleepAndWakeUpMoveTheSensor := by
  refine fun env hsettle => ⟨runOp_wakeup_of_ok hsettle, runOp_sleep_of_ok hsettle, fun d rest hcap hdraws hbus => ?_⟩
  obtain ⟨woken, hwoken, hwakeup⟩ := goOn_of_draws .wakeUp (.encChk 0x1#4) hdraws hbus [.waitSettle]
  obtain ⟨asleep, hasleep, hsleep⟩ := goOn_of_draws .sleep (.encChk 0x0#4) hdraws hbus []
  rw [(runOp_wakeup_supported hcap).trans hwakeup, (runOp_sleep_supported hcap).trans hsleep, runParts_waitSettle]
  refine ⟨rfl, rfl, ?_, hasleep⟩
  rw [hostWait_written, hwoken]; rfl

end Sys2Proof.Machine
end

section
/-! PROOF. measure(mode) on a transport that answers (O50). -/

namespace Sys2Proof.Machine

open Sys2Proof.Safety

/-! ### The validator after a response is fed (42_validator.md R155) -/

/-- Feeding the bytes from `k` on extends the stream of the first `k` bytes. -/
theorem feedResponse_streamAgrees {n count k : Nat} {env : Env} {r : Response} (hr : env.responses[n]? = some r)
    (hlen : k + count ≤ r.bytes.length) (hs : StreamAgrees (r.bytes.take k) env.block) :
    StreamAgrees (r.bytes.take (k + count)) (feedResponse n count k env).block := by
  induction count generalizing k env r with
  | zero => exact hs
  | succ count ih =>
    have hk : k < r.bytes.length := by omega
    obtain ⟨t, hexec, hagrees, -⟩ := exec_valByte_of_streamAgrees hs r.bytes[k]
    have hblock : (hostFeed n k env).block = t := by
      rw [hostFeed_of_byte hr (List.getElem?_eq_getElem hk)]
      exact hostRequest_block hexec
    rw [List.take_append_getElem, ← hblock] at hagrees
    rw [← Nat.succ_add_eq_add_succ] at hlen ⊢
    exact ih (r := { r with fed := k + 1 }) (hostFeed_responses hr hk) hlen hagrees

theorem feedNewResponse_streamAgrees (bytes : List Byte) (env : Env) :
    StreamAgrees bytes (feedNewResponse bytes env).block := by
  have hstart : StreamAgrees [] (hostRequest .valStart (withResponse bytes env)).block := by
    rw [hostRequest_block (exec_valStart _)]
    exact streamAgrees_startStream _
  have hresponse : (hostRequest .valStart (withResponse bytes env)).responses[env.responses.length]?
      = some ⟨bytes, 0⟩ := by
    rw [hostRequest_responses, withResponse_responses]
  simpa [feedNewResponse] using feedResponse_streamAgrees hresponse (Nat.zero_add _).le hstart

/-! ### The operation -/

/-- A measurement whose write and read are answered comes to its conversion with the validator holding the response. -/
theorem runParts_measureParts_of_draws (mode : PowerMode) (order : Order) (convert : Instr) {env : Env} {d d' : Draw}
    {rest : List Draw} (hdraws : env.draws = d :: d' :: rest) (hbus : d.busError = none) (hbus' : d'.busError = none) :
    ∃ env', StreamAgrees d'.bytes env'.block
      ∧ runParts (measureParts mode order d'.bytes.length convert) env = runParts [.request convert] env' := by
  have henc := exec_enc_commandSel (.measure mode order false) env.block
  obtain ⟨sent, hsent, hsend⟩ := sendCommand_of_draws (.measure mode order false)
    ((hostRequest_draws (.enc (commandSel (.measure mode order false))) env).trans hdraws) hbus
  rw [measureParts, measureSel, runParts_send henc, hsend, goOn,
    runParts_request_ok (exec_profDur mode sent.block) (errField_finishRes0 _ _), runParts_waitResult]
  exact ⟨_, feedNewResponse_streamAgrees _ _,
    runParts_receive_of_draws (by rw [hostWait_draws, hostRequest_draws, hsent.draws]) hbus' _⟩

/-- A response of two groups (42_validator.md R150). -/
theorem validate_two_groups_eq_ok_iff (a b c a' b' c' : Byte) :
    validate [a, b, c, a', b', c'] = .ok ↔ crc8 [a, b] = c ∧ crc8 [a', b'] = c' := by
  by_cases h : crc8 [a, b] = c <;> simp [validate, validateFrom, h]

/-- Settles O50: after the response MEAS_TH answers what the stream's verdict says. -/
theorem measureOperationConvertsTheResponse : Obligations.MeasureOperationConvertsTheResponse := by
  intro env mode d d' a b c a' b' c' rest hdraws hbus hbus' hbytes
  obtain ⟨u, hagrees, hrun⟩ := runParts_measureParts_of_draws mode .temperatureFirst (.measTh .temperatureFirst)
    hdraws hbus hbus'
  rw [hbytes] at hagrees hrun
  have hop : runOp (.measure mode) env = runParts [.request (.measTh .temperatureFirst)] u := hrun
  have hexec := exec_streamMeasurement hagrees (i := .measTh .temperatureFirst) rfl
  have hgate := measGate_of_streamAgrees hagrees (n := 2#16) (by decide)
  rw [hop]
  split
  · next hmatch =>
    have hopen : streamGate 2#16 [a, b, c, a', b', c'] = none :=
      (streamGate_eq_none_iff _ _).mpr ⟨(validate_two_groups_eq_ok_iff a b c a' b' c').mpr hmatch, by simp⟩
    rw [gated_of_measGate_none (hgate.trans hopen)] at hexec
    rw [runParts_request_ok hexec (errField_finishRes01 _ _ _)]
    refine ⟨rfl, ?_⟩
    rw [runParts, hostRequest_block hexec]
    exact ⟨rfl, rfl⟩
  · next hmismatch =>
    have hclosed : streamGate 2#16 [a, b, c, a', b', c'] = some .checksum := by
      rw [streamGate, if_pos (mt (validate_two_groups_eq_ok_iff a b c a' b' c').mp hmismatch)]
    rw [gated_of_measGate_some (hgate.trans hclosed)] at hexec
    have herr : errField (raiseError .checksum u.block).status = 1#4 := errField_raiseError .checksum _
    rw [runParts_request_error hexec (by rw [herr]; decide), herr]

end Sys2Proof.Machine
end

section
/-! PROOF. One transaction at a time (O55). -/

namespace Sys2Proof.Machine

open Sys2Proof.Safety

theorem transactionCounts_le_one (op : HostOp) : writeCount op ≤ 1 ∧ waitCount op ≤ 1 ∧ readCount op ≤ 1 := by
  cases op with
  | reset | sleep | wakeup | rawIdRegister | deviceIdentifier => decide
  | measure mode | measureTemperature mode | measureHumidity mode => cases mode <;> decide

/-- Only the SoftwareReset's opcode to a sensor awake may overlap (R265). -/
theorem isValidReset_eq_false {env : Env} {op : Half} (h : env.power = .sleeping ∨ op ≠ 0x805D#16) :
    isValidReset env (commandOfOpcode op) = false := by
  rcases h with hasleep | hop
  · simp [isValidReset, hasleep]
  · have hother : commandOfOpcode op ≠ some .softwareReset := fun hc => hop (sensorOpcode_of_commandOfOpcode hc).symm
    simp [isValidReset, hother]

theorem overlappingCommand_mem_commandBreaches {env : Env} {c : Option Command} (hflight : env.inFlight ≠ [])
    (hreset : isValidReset env c = false) : Breach.overlappingCommand ∈ commandBreaches env c := by
  simp [commandBreaches, hflight, hreset]

/-- The breaches of a write are recorded whether it succeeds or fails (R231). -/
theorem transportWrite_breaches {first second : Byte} {env : Env} (h : (transportWrite first second env).1 ≠ .undrawn) :
    (transportWrite first second env).2.breaches
      = commandBreaches env (commandOfOpcode (first ++ second)) ++ env.breaches := by
  rcases transportWrite_cases first second env with ⟨-, hwrite⟩ |
    ⟨d, rest, -, ⟨e, env', -, hwrite, -, -, -, hbreach⟩ | ⟨env', -, hwrite, -, -, -, -, -, -, -, -, -, -, hbreach⟩⟩
  · rw [hwrite] at h; exact absurd rfl h
  · rw [hwrite]; exact hbreach
  · rw [hwrite]; exact hbreach

/-- The read of the only operation in flight leaves none that awaits a read. -/
theorem any_awaitsResponse_eraseP {cs : List Command} (h : cs.length ≤ 1) :
    (cs.eraseP awaitsResponse).any awaitsResponse = false := by
  match cs, h with
  | [], _ => rfl
  | [c], _ => cases hc : awaitsResponse c <;> simp [hc]

/-- Settles O55: the first read ends the operation in flight, so the second belongs to none. -/
theorem oneTransactionAtATime : Obligations.OneTransactionAtATime := by
  refine ⟨transactionCounts_le_one, fun first second env hflight hcommand hdrawn => ?_,
    fun n m env hflight hfirst hsecond => ?_⟩
  · rw [transportWrite_breaches hdrawn]
    exact List.mem_append_left _ (overlappingCommand_mem_commandBreaches hflight (isValidReset_eq_false hcommand))
  · obtain ⟨-, hended, -⟩ := transportRead_drawn hfirst
    obtain ⟨-, -, hbreach⟩ := transportRead_drawn hsecond
    rw [hbreach]
    exact List.mem_append_left _ (by simp [readBreaches, hended, any_awaitsResponse_eraseP hflight])

end Sys2Proof.Machine
end

section
/-! PROOF. The source's operations keep the host's obligations (O49): what is in flight and owed after each part. -/

namespace Sys2Proof.Machine

/-! ### Between two parts of an operation -/

/-- The environment between two parts of an operation: the breaches recorded, the waits owed, and what is in flight. -/
structure Underway (b : List Breach) (settle measure : Nat) (cs : List Command) (env : Env) : Prop where
  breaches : env.breaches = b
  settleOwed : env.settleOwed = settle
  measureOwed : env.measureOwed = measure
  inFlight : env.inFlight = cs

namespace Underway

variable {b : List Breach} {settle measure : Nat} {cs : List Command} {env : Env}

theorem request (h : Underway b settle measure cs env) (i : Instr) :
    Underway b settle measure cs (hostRequest i env) where
  breaches := (hostRequest_breaches i env).trans h.breaches
  settleOwed := (hostRequest_settleOwed i env).trans h.settleOwed
  measureOwed := (hostRequest_measureOwed i env).trans h.measureOwed
  inFlight := (hostRequest_inFlight i env).trans h.inFlight

/-- A wait that covers the settle wait ends the operations that end with it (R265, R270). -/
theorem wait (h : Underway b settle measure cs env) {us : Nat} (hus : settle ≤ us) :
    Underway b 0 (measure - us) (cs.filter fun c => !awaitsSettle c) (hostWait us env) where
  breaches := (hostWait_breaches us env).trans h.breaches
  settleOwed := by rw [hostWait_settleOwed, h.settleOwed, Nat.sub_eq_zero_of_le hus]
  measureOwed := by rw [hostWait_measureOwed, h.measureOwed]
  inFlight := by rw [hostWait_inFlight, h.settleOwed, if_pos hus, h.inFlight]

/-- The read of the one operation in flight, with no measurement wait owed, breaks nothing (R267, R268). -/
theorem read {c : Command} (h : Underway b settle 0 [c] env) (hc : awaitsResponse c = true) (rest : List Draw) :
    Underway b settle 0 [] (afterRead rest env) where
  breaches := by simp [afterRead, readBreaches, h.measureOwed, h.inFlight, hc, h.breaches]
  settleOwed := h.settleOwed
  measureOwed := h.measureOwed
  inFlight := by simp [afterRead, h.inFlight, hc]

/-- The next byte of a response, framed where it is the first, breaks nothing (R269, 20_memory.md R70). -/
theorem feedByte {n k : Nat} {r : Response} (h : Underway b settle measure cs env) (hr : env.responses[n]? = some r)
    (hk : k < r.bytes.length) (hfed : k = r.fed) (hfresh : k = 0 → env.fresh = true) :
    Underway b settle measure cs (hostFeed n k env) := by
  rw [hostFeed_of_byte hr (List.getElem?_eq_getElem hk), feedBreaches_eq_nil hfed hfresh]
  exact { h.request (.valByte r.bytes[k]) with breaches := h.breaches }

theorem feedBytes {n count k : Nat} {r : Response} (h : Underway b settle measure cs env)
    (hr : env.responses[n]? = some r) (hlen : k + count ≤ r.bytes.length) (hfed : k = r.fed)
    (hfresh : k = 0 → env.fresh = true) : Underway b settle measure cs (feedResponse n count k env) := by
  induction count generalizing k env r with
  | zero => exact h
  | succ count ih =>
    have hk : k < r.bytes.length := by omega
    rw [← Nat.succ_add_eq_add_succ] at hlen
    exact ih (r := { r with fed := k + 1 }) (h.feedByte hr hk hfed hfresh) (hostFeed_responses hr hk) hlen rfl
      fun hzero => absurd hzero (Nat.succ_ne_zero k)

theorem feedNew (h : Underway b settle measure cs env) (bytes : List Byte) :
    Underway b settle measure cs (feedNewResponse bytes env) := by
  have hread : Underway b settle measure cs (withResponse bytes env) :=
    ⟨h.breaches, h.settleOwed, h.measureOwed, h.inFlight⟩
  refine (hread.request .valStart).feedBytes (r := ⟨bytes, 0⟩) ?_ (Nat.zero_add _).le rfl fun _ => ?_
  · rw [hostRequest_responses, withResponse_responses]
  · rw [hostRequest_fresh, freshAfter, if_pos rfl]

end Underway

/-- A Command sent with nothing owed and none in flight, to a sensor that takes it, breaks nothing (R265 to R268). -/
theorem commandBreaches_eq_nil {b : List Breach} {env : Env} {c : Command} (h : Underway b 0 0 [] env)
    (hpower : env.power = .idle ∨ c = .wakeUp) : commandBreaches env (some c) = [] := by
  rcases hpower with hidle | rfl
  · simp [commandBreaches, h.settleOwed, h.measureOwed, h.inFlight, hidle]
  · simp [commandBreaches, h.settleOwed, h.measureOwed, h.inFlight]

/-- The sent Command's waits are owed and its own operation is in flight, unless its write ended it (R268). -/
theorem Sent.underway {d : Draw} {rest : List Draw} {c : Command} {b : List Breach} {env env' : Env}
    (hsent : Sent d rest c env env') (h : Underway b 0 0 [] env) (hpower : env.power = .idle ∨ c = .wakeUp) :
    Underway b (settleAfter (some c)) (measureAfter env.block (some c))
      ([c].filter fun c => awaitsResponse c || awaitsSettle c) env' where
  breaches := by rw [hsent.breaches, commandBreaches_eq_nil h hpower, List.nil_append, h.breaches]
  settleOwed := by rw [hsent.settleOwed, h.settleOwed, Nat.zero_max]
  measureOwed := by rw [hsent.measureOwed, h.measureOwed, Nat.zero_max]
  inFlight := by rw [hsent.inFlight, flightAfter, h.inFlight, ite_self, List.append_nil]; rfl

/-! ### How an operation ends -/

/-- An operation has ended with its obligations kept: it broke none, none is in flight, and nothing is owed after Ok. -/
structure EndsKeeping (b : List Breach) (r : OpResult × Env) : Prop where
  breaches : r.2.breaches = b
  inFlight : r.1 ≠ .undrawn → r.2.inFlight = []
  owed : r.1 = .ok → r.2.settleOwed = 0 ∧ r.2.measureOwed = 0

namespace EndsKeeping

variable {b : List Breach} {env : Env}

theorem of_ok (h : Underway b 0 0 [] env) : EndsKeeping b (.ok, env) :=
  ⟨h.breaches, fun _ => h.inFlight, fun _ => ⟨h.settleOwed, h.measureOwed⟩⟩

theorem of_error {settle measure : Nat} {r : OpResult} (h : Underway b settle measure [] env) (hr : r ≠ .ok) :
    EndsKeeping b (r, env) :=
  ⟨h.breaches, fun _ => h.inFlight, fun hok => absurd hok hr⟩

/-- Where the list of draws has run out, an operation may be left in flight (log 8). -/
theorem of_undrawn (h : env.breaches = b) : EndsKeeping b (.undrawn, env) :=
  ⟨h, fun hdrawn => absurd rfl hdrawn, nofun⟩

/-- Requests to the block alone break no obligation, whatever they raise. -/
theorem requests (h : Underway b 0 0 [] env) (is : List Instr) : EndsKeeping b (runParts (is.map .request) env) := by
  induction is generalizing env with
  | nil => exact of_ok h
  | cons i is ih =>
    obtain ⟨t, ht⟩ := exec_next i env.block
    rw [List.map_cons]
    by_cases hok : errField t.status = 0#4
    · rw [runParts_request_ok ht hok]
      exact ih (h.request i)
    · rw [runParts_request_error ht hok]
      exact of_error (h.request i) nofun

/-- The end of an operation that reads its response. -/
theorem receive {c : Command} (h : Underway b 0 0 [c] env) (hc : awaitsResponse c = true) (n : Nat) (is : List Instr) :
    EndsKeeping b (runParts (.receive n :: is.map .request) env) := by
  rcases runParts_receive_cases n (is.map .request) env with hrun | ⟨d, rest, -, ⟨e, -, hrun⟩ | ⟨-, -, hrun⟩⟩
  · exact hrun ▸ of_undrawn h.breaches
  · exact hrun ▸ of_error (h.read hc rest) nofun
  · exact hrun ▸ requests ((h.read hc rest).feedNew d.bytes) is

/-- The end of an operation that waits for its Command to settle. -/
theorem waitSettle {c : Command} (h : Underway b 240 0 [c] env) (hc : awaitsSettle c = true) :
    EndsKeeping b (runParts [.waitSettle] env) := by
  rw [runParts_waitSettle]
  have hwaited := h.wait (us := 240) (Nat.le_refl 240)
  rw [List.filter_cons_of_neg (by simp [hc])] at hwaited
  exact of_ok hwaited

/-- A Command written: the operation ends where the transport fails, and goes on with the Command sent. -/
theorem send {c : Command} {ps : List OpPart} (h : Underway b 0 0 [] env) (hpower : env.power = .idle ∨ c = .wakeUp)
    (hgoOn : ∀ env', env'.block = env.block → Underway b (settleAfter (some c)) (measureAfter env.block (some c))
      ([c].filter fun c => awaitsResponse c || awaitsSettle c) env' → EndsKeeping b (runParts ps env')) :
    EndsKeeping b (goOn ps (sendCommand c env)) := by
  rcases sendCommand_cases c env with ⟨-, hsend⟩ | ⟨d, rest, env', -, ⟨e, -, hfailed, hsend⟩ | ⟨-, hsent, hsend⟩⟩
  · rw [hsend]
    exact of_undrawn h.breaches
  · have hbreach : env'.breaches = b := by
      rw [hfailed.breaches, commandBreaches_eq_nil h hpower, List.nil_append, h.breaches]
    rw [hsend]
    exact of_error ⟨hbreach, rfl, rfl, hfailed.inFlight.trans h.inFlight⟩ nofun
  · rw [hsend]
    exact hgoOn env' hsent.block (hsent.underway h hpower)

end EndsKeeping

/-! ### The operations by their shapes (R270) -/

/-- With the duration in RES0, the wait is the measurement wait that the Measure left owed (R267). -/
theorem endsKeeping_measureParts {b : List Breach} {env : Env} (h : Underway b 0 0 [] env) (hidle : env.power = .idle)
    (mode : PowerMode) (order : Order) (n : Nat) (convert : Instr) :
    EndsKeeping b (runParts (measureParts mode order n convert) env) := by
  rw [measureParts, measureSel, runParts_send (exec_enc_commandSel (.measure mode order false) env.block)]
  refine .send (h.request _) (.inl ((hostRequest_power _ env).trans hidle)) fun sent hblock hsent => ?_
  have hprof := exec_profDur mode sent.block
  have hres : (hostRequest (.profDur mode) sent).block.res0.toNat
      = (maxDuration (activeProfile sent.block) mode).toNat := by
    rw [hostRequest_block hprof, finishRes0_res0, BitVec.toNat_setWidth_of_le (by decide)]
  have hwaited := (hsent.request (.profDur mode)).wait
    (Nat.zero_le (hostRequest (.profDur mode) sent).block.res0.toNat)
  rw [hres, hblock, measureAfter, Nat.sub_self] at hwaited
  rw [runParts_request_ok hprof (errField_finishRes0 _ _), runParts_waitResult, hres, hblock]
  exact .receive (c := .measure mode order false) hwaited rfl n [convert]

/-- SoftwareReset and WakeUp end with the settle wait they left owed (R265). -/
theorem endsKeeping_settleCommand {b : List Breach} {env : Env} {c : Command} (h : Underway b 0 0 [] env)
    (hpower : env.power = .idle ∨ c = .wakeUp) (hc : awaitsSettle c = true) :
    EndsKeeping b (goOn [.waitSettle] (sendCommand c env)) := by
  refine .send h hpower fun sent _ hsent => ?_
  cases c with
  | softwareReset | wakeUp => exact .waitSettle hsent rfl
  | sleep | readIdRegister | measure => cases hc

/-- A Sleep ends with its write (R270). -/
theorem endsKeeping_sleep {b : List Breach} {env : Env} (h : Underway b 0 0 [] env) (hidle : env.power = .idle) :
    EndsKeeping b (goOn [] (sendCommand .sleep env)) :=
  .send h (.inl hidle) fun _ _ hsent => .of_ok hsent

/-- A ReadIdRegister owes no wait and ends with its read (R267, R268). -/
theorem endsKeeping_readIdRegister {b : List Breach} {env : Env} (h : Underway b 0 0 [] env) (hidle : env.power = .idle)
    (is : List Instr) :
    EndsKeeping b (runParts (.request (.enc 0x3#4) :: .sendResult :: .receive 3 :: is.map .request) env) := by
  have henc : exec (.enc 0x3#4) env.block = _ := exec_enc_commandSel .readIdRegister env.block
  rw [runParts_send henc]
  exact .send (h.request _) (.inl ((hostRequest_power _ env).trans hidle)) fun _ _ hsent => .receive hsent rfl 3 is

theorem endsKeeping_runOp {op : HostOp} {b : List Breach} {env : Env} (h : Underway b 0 0 [] env)
    (hpower : env.power = .idle ∨ op = .wakeup) : EndsKeeping b (runOp op env) := by
  have hidle : op ≠ .wakeup → env.power = .idle := fun hop => hpower.resolve_right hop
  cases op with
  | reset =>
    have hrun : runOp .reset env = goOn [.waitSettle] (sendCommand .softwareReset (hostRequest (.enc 0x2#4) env)) :=
      runParts_send (exec_enc_commandSel .softwareReset env.block) _
    rw [hrun]
    exact endsKeeping_settleCommand (h.request _) (.inl ((hostRequest_power _ env).trans (hidle nofun))) rfl
  | sleep =>
    cases hcap : (activeProfile env.block).sleepCap with
    | false => exact runOp_sleep_unsupported hcap ▸ .of_error (h.request _) nofun
    | true =>
      rw [runOp_sleep_supported hcap]
      exact endsKeeping_sleep (h.request _) ((hostRequest_power _ env).trans (hidle nofun))
  | wakeup =>
    cases hcap : (activeProfile env.block).sleepCap with
    | false => exact runOp_wakeup_unsupported hcap ▸ .of_error (h.request _) nofun
    | true =>
      rw [runOp_wakeup_supported hcap]
      exact endsKeeping_settleCommand (h.request _) (.inr rfl) rfl
  | measure mode | measureTemperature mode | measureHumidity mode =>
    exact endsKeeping_measureParts h (hidle nofun) mode _ _ _
  | rawIdRegister => exact endsKeeping_readIdRegister h (hidle nofun) [.valCheck, .regRd 0x5#4]
  | deviceIdentifier => exact endsKeeping_readIdRegister h (hidle nofun) [.measId]

/-- Settles O49: each operation ends keeping what it started with. -/
theorem hostOperationsKeepTheirObligations : Obligations.HostOperationsKeepTheirObligations := by
  intro op env hsettle hmeasure hflight hpower
  obtain ⟨hbreach, hended, howed⟩ := endsKeeping_runOp ⟨rfl, hsettle, hmeasure, hflight⟩ hpower
  exact ⟨hbreach, hended, howed⟩

end Sys2Proof.Machine
end

section
/-! PROOF. What the checksum of a group detects (95_test_vectors.md section 3): CRC-8 is linear over XOR, so whether an
error goes unseen depends on the error alone (O15). -/

namespace Sys2Proof.Machine

/-! ### The CRC-8 function is linear over XOR (R130) -/

/-- The polynomial comes in for `x ^^^ y` exactly when it comes in for one of the two, and cancels when for both. -/
theorem crc8Shift_xor (x y : Byte) : crc8Shift (x ^^^ y) = crc8Shift x ^^^ crc8Shift y := by
  have hcancel (u v p : Byte) : u ^^^ p ^^^ (v ^^^ p) = u ^^^ v := by
    rw [BitVec.xor_comm v, BitVec.xor_assoc, ← BitVec.xor_assoc p, BitVec.xor_self, BitVec.zero_xor]
  rw [crc8Shift, crc8Shift, crc8Shift, BitVec.getLsbD_xor, BitVec.shiftLeft_xor_distrib]
  cases x.getLsbD 7 <;> cases y.getLsbD 7
  case false.false => rfl
  case false.true => exact BitVec.xor_assoc ..
  case true.false => exact (by ac_rfl : x <<< 1 ^^^ y <<< 1 ^^^ 0x31#8 = x <<< 1 ^^^ 0x31#8 ^^^ y <<< 1)
  case true.true => exact (hcancel ..).symm

theorem crc8Shifts_xor (n : Nat) (x y : Byte) : crc8Shifts n (x ^^^ y) = crc8Shifts n x ^^^ crc8Shifts n y := by
  induction n generalizing x y with
  | zero => rfl
  | succ n ih => rw [crc8Shifts, crc8Shift_xor, ih]; rfl

theorem crc8Step_xor (c d b e : Byte) : crc8Step (c ^^^ d) (b ^^^ e) = crc8Step c b ^^^ crc8Step d e := by
  have hswap : c ^^^ d ^^^ (b ^^^ e) = c ^^^ b ^^^ (d ^^^ e) := by ac_rfl
  rw [crc8Step, hswap, crc8Shifts_xor]; rfl

/-- The initial register goes with one list, so the other runs from 0. -/
theorem crc8From_xor (c d : Byte) (bytes errors : List Byte) (hlen : bytes.length = errors.length) :
    crc8From (c ^^^ d) (bytes.zipWith (· ^^^ ·) errors) = crc8From c bytes ^^^ crc8From d errors := by
  induction bytes generalizing c d errors with
  | nil => obtain rfl := List.eq_nil_of_length_eq_zero hlen.symm; rfl
  | cons b rest ih =>
    obtain ⟨e, errors, rfl⟩ := List.exists_cons_of_length_eq_add_one hlen.symm
    rw [List.zipWith_cons_cons, crc8From, crc8Step_xor, ih _ _ errors (Nat.succ.inj hlen)]; rfl

/-! ### Groups and errors -/

/-- An error in a group that passes goes unseen exactly when its own third byte is the CRC of the other two from 0. -/
theorem crc8_xor_eq_iff {a b c : Byte} (hpass : crc8 [a, b] = c) (ea eb ec : Byte) :
    crc8 [a ^^^ ea, b ^^^ eb] = c ^^^ ec ↔ crc8From 0#8 [ea, eb] = ec := by
  have hlinear : crc8 [a ^^^ ea, b ^^^ eb] = crc8 [a, b] ^^^ crc8From 0#8 [ea, eb] :=
    crc8From_xor 0xFF#8 0#8 [a, b] [ea, eb] rfl
  rw [hlinear, hpass, BitVec.xor_right_inj]

/-- None of the 24 single-bit errors is one that goes unseen. -/
theorem crc8From_zero_single_bit_ne : ∀ bit < 24,
    crc8From 0#8 [(1#24 <<< bit).extractLsb' 16 8, (1#24 <<< bit).extractLsb' 8 8] ≠ (1#24 <<< bit).extractLsb' 0 8 := by
  decide +kernel

/-- Settles O15: the flipped bit is an error XORed into the group, and by linearity only the 24 errors are to be looked
at, not the groups. -/
theorem checksumCatchesEverySingleBitError : Obligations.ChecksumCatchesEverySingleBitError := by
  intro group bit hbit hpass
  simp only [BitVec.extractLsb'_xor]
  exact mt (crc8_xor_eq_iff hpass _ _ _).mp (crc8From_zero_single_bit_ne bit hbit)

end Sys2Proof.Machine
end
